-- ==== Sys2Proof/Word.lean ====
section
/-! DEFINITION. The word types of T32-WSC (spec 00_scope R9, R10; 20_memory R60, R61; 30_encoding R85). -/

namespace Sys2Proof

/-- An event word `EVT[49:0]`, the encoding of one operation (30_encoding R85). Bit 0 is the least
significant (00_scope R9). -/
abbrev EventWord := BitVec 50

/-- The 32-bit word of the host port, the addressable unit of the block (20_memory R61). -/
abbrev Word := BitVec 32

/-- A host word address (20_memory R60). -/
abbrev HostAddr := BitVec 14

/-- A timer capture value: `CAPW` = 16 bits (00_scope R7). -/
abbrev Capture := BitVec 16

/-- A sample, s16 in two's complement (10_state R38). -/
abbrev Sample := BitVec 16

end Sys2Proof
end

