-- ==== Sys2Proof/Config.lean ====
section
/-! DEFINITION. What an implementation of T32-WSC fixes (00_scope R7) and the values the spec leaves open. -/

namespace Sys2Proof.Config

/-- Entries of the pitch table, `PTAB_N` (00_scope R7, fixed). -/
def ptabN : Nat := 2048

/-- Entries of the volume table, `VTAB_N` (00_scope R7, fixed). -/
def vtabN : Nat := 1024

/-- Entries of the shaping curve, `STAB_N` (00_scope R7, fixed). -/
def stabN : Nat := 256

/-- Physical entries of the waveform table, `WTAB_N` (00_scope R7, fixed). -/
def wtabN : Nat := 4096

/-- `AMP_MAX` = 1023 · 2^20, the largest legal `AMP` (10_state R32). -/
def ampMax : Nat := 0x3FF00000

/-- `SENTINEL`, the host's largest s32 (00_scope R8); the block does not hold it. -/
def sentinel : Word := 0x7FFFFFFF#32

/-- `CAL_TICKS`, the host's calibration duration in low-rate ticks (00_scope R8); the block does not hold it. -/
def calTicks : Nat := 1000

/-- The numeric parameters of the block (00_scope R7, 93 P1). `TICK_HZ` is informative and used by no rule. -/
structure Params where
  /-- `PER_CENTER`, subtracted from a period. -/
  perCenter : Nat
  /-- `PER_THRESH`, a non-zero period below this is doubled. -/
  perThresh : Nat
  /-- `PER_SCALE_SHIFT`, a period delta is multiplied by 2^this. -/
  perScaleShift : Nat
  /-- `FILT_SHIFT`, the period filter's window is 2^this. -/
  filtShift : Nat
  /-- `PITCH_MUL`, multiplier of the pitch control value. -/
  pitchMul : Nat
  /-- `VOL_NORM_SHIFT`, the volume control value is divided by 2^this. -/
  volNormShift : Nat
  /-- `AMP_SHIFT`, the amplitude smoother's window is 2^this. -/
  ampShift : Nat
deriving DecidableEq, Repr

/-- The default column of 00_scope R7. -/
def Params.defaults : Params :=
  { perCenter := 2048, perThresh := 1536, perScaleShift := 20, filtShift := 10,
    pitchMul := 1, volNormShift := 10, ampShift := 10 }

/-- The legal-range column of 00_scope R7, outside which the width statements of 10_state do not hold. -/
abbrev Params.Legal (p : Params) : Prop :=
  p.perCenter ≤ 65535 ∧ p.perThresh ≤ 65535 ∧ p.perScaleShift ≤ 20 ∧ p.filtShift ≤ 16 ∧
    1 ≤ p.pitchMul ∧ p.pitchMul ≤ 65536 ∧ p.volNormShift ≤ 31 ∧ p.ampShift ≤ 16

/-- The parameters the machine runs with: the defaults, which 00_scope R7 lets a model hard-wire
(DESIGN CHOICE, unsafe for an implementation with other parameters: log entry 9). -/
def params : Params := Params.defaults

/-- The power-on contents of `PTAB[i]`: any u32, stable (10_state R45, 93 U1). A FREE VALUE: no body, nothing can be
proved of it (safe: log entry 4). -/
opaque powerOnPtab : Nat → BitVec 32

/-- The power-on contents of `VTAB[i]`: any value 0 .. 1023, stable (10_state R45, 93 U1). A FREE VALUE (safe: log
entry 4). -/
opaque powerOnVtab : Nat → BitVec 10

/-- The power-on contents of `STAB[i]`: any s16, stable (10_state R45, 93 U1). A FREE VALUE (safe: log entry 4). -/
opaque powerOnStab : Nat → BitVec 16

/-- The power-on contents of `WTAB[i]`: any s16, stable (10_state R45, 93 U1). A FREE VALUE (safe: log entry 4). -/
opaque powerOnWtab : Nat → BitVec 16

/-- `Key(0)`, which 43_lookup R185 does not define and no reachable state needs. A FREE VALUE (safe: log entry 7). -/
opaque keyOfZero : BitVec 28

end Sys2Proof.Config
end

