-- ==== Sys2Proof/Syntax.lean ====
section
/-! DEFINITION. The operations of T32-WSC, one constructor per row of spec/opcode_table.json (00_scope R3, 30_encoding
R96), and the names of its registers and tables (10_state R20). -/

namespace Sys2Proof

/-- The fourteen host-visible registers (20_memory R66), in the order of their addresses. -/
inductive RegName where
  | ctrl | status | pofs | vofs | fpitch | fvol | phase | amp
  | pctl | vctl | capp | capv | sample | step
deriving DecidableEq, Repr

/-- The four tables (10_state R40 to R43). -/
inductive TableName where
  | ptab | vtab | stab | wtab
deriving DecidableEq, Repr

/-- What one host address names (20_memory R66): a register, a table entry (its index is the low address bits,
30_encoding R93), or nothing. -/
inductive Target where
  | reg (r : RegName)
  | ptab (i : BitVec 11)
  | vtab (i : BitVec 10)
  | stab (i : BitVec 8)
  | wtab (i : BitVec 12)
  | reserved
deriving DecidableEq, Repr

/-- One operation of the block: a host command, the TICK event, the RESET event (00_scope R3), and the reserved event
word EVRSV, a row of the table though not an operation (30_encoding R97). Bits the decoder ignores (30_encoding R98 f, g)
are no operand. -/
inductive Instr where
  /-- `WR.CTRL`, 40_host_access R112; the four fields of `data`. -/
  | wrCtrl (mute div2 shapeEn : Bool) (wlen : BitVec 2)
  /-- `RD.CTRL`, R113. -/
  | rdCtrl
  /-- `RD.STATUS`, R114. -/
  | rdStatus
  /-- `WR.POFS`, R115. -/
  | wrPofs (data : Word)
  /-- `RD.POFS`, R116. -/
  | rdPofs
  /-- `WR.VOFS`, R117. -/
  | wrVofs (data : Word)
  /-- `RD.VOFS`, R118. -/
  | rdVofs
  /-- `WR.FPITCH`, R119. -/
  | wrFpitch (data : Word)
  /-- `RD.FPITCH`, R120. -/
  | rdFpitch
  /-- `WR.FVOL`, R121. -/
  | wrFvol (data : Word)
  /-- `RD.FVOL`, R122. -/
  | rdFvol
  /-- `WR.PHASE`, R125. -/
  | wrPhase (data : Word)
  /-- `RD.PHASE`, R126. -/
  | rdPhase
  /-- `WR.AMP`, R123. -/
  | wrAmp (data : Word)
  /-- `RD.AMP`, R124. -/
  | rdAmp
  /-- `RD.PCTL`, R127. -/
  | rdPctl
  /-- `RD.VCTL`, R128. -/
  | rdVctl
  /-- `RD.CAPP`, R129. -/
  | rdCapp
  /-- `RD.CAPV`, R130. -/
  | rdCapv
  /-- `RD.SAMPLE`, R131. -/
  | rdSample
  /-- `RD.STEP`, R132. -/
  | rdStep
  /-- `WR.RO.STATUS`, R145. -/
  | wrRoStatus
  /-- `WR.RO.PCTL`, R145. -/
  | wrRoPctl
  /-- `WR.RO.VCTL`, R145. -/
  | wrRoVctl
  /-- `WR.RO.CAPP`, R145. -/
  | wrRoCapp
  /-- `WR.RO.CAPV`, R145. -/
  | wrRoCapv
  /-- `WR.RO.SAMPLE`, R145. -/
  | wrRoSample
  /-- `WR.RO.STEP`, R145. -/
  | wrRoStep
  /-- `WR.PTAB`, R135. -/
  | wrPtab (i : BitVec 11) (data : Word)
  /-- `RD.PTAB`, R136. -/
  | rdPtab (i : BitVec 11)
  /-- `WR.VTAB`, R133. -/
  | wrVtab (i : BitVec 10) (data : Word)
  /-- `RD.VTAB`, R134. -/
  | rdVtab (i : BitVec 10)
  /-- `WR.STAB`, R139. -/
  | wrStab (i : BitVec 8) (data : Word)
  /-- `RD.STAB`, R140. -/
  | rdStab (i : BitVec 8)
  /-- `WR.WTAB`, R137. -/
  | wrWtab (i : BitVec 12) (data : Word)
  /-- `RD.WTAB`, R138. -/
  | rdWtab (i : BitVec 12)
  /-- `HNOP`, R111. -/
  | hnop
  /-- `HRSV`, R141. -/
  | hrsv
  /-- `WR.RSVD`, R146; `addr` is a reserved address (see `Instr.wellFormed`). -/
  | wrRsvd (addr : HostAddr)
  /-- `RD.RSVD`, R147; `addr` is a reserved address (see `Instr.wellFormed`). -/
  | rdRsvd (addr : HostAddr)
  /-- `TICK`, 45_tick R215. -/
  | tick (capP capV : Capture)
  /-- `RESET`, 45_tick R222. -/
  | reset
  /-- `EVRSV`, 30_encoding R97. -/
  | evrsv
deriving DecidableEq, Repr

end Sys2Proof
end

