-- ==== Sys2Proof/WellFormed.lean ====
section
/-! DEFINITION. Which terms of `Instr` stand for an operation: the operand widths are in the types, so the one check left
is that a rejected access to a reserved address names a reserved address (40_host_access R146, R147). -/

namespace Sys2Proof

/-- The reserved host addresses: 0x000E .. 0x07FF, 0x1500 .. 0x1FFF, 0x3000 .. 0x3FFF (20_memory R66, 40_host_access
R146). -/
def reservedAddr (a : HostAddr) : Bool :=
  (0x000E ≤ a.toNat && a.toNat ≤ 0x07FF) || (0x1500 ≤ a.toNat && a.toNat ≤ 0x1FFF) ||
    (0x3000 ≤ a.toNat && a.toNat ≤ 0x3FFF)

/-- `WR.RSVD` and `RD.RSVD` are the operations of a reserved address; every other term is an operation whatever its
operands (a `WR.CTRL` with `wlen` = 3 is one: it answers the error response, 40_host_access R112). -/
def Instr.wellFormed : Instr → Bool
  | .wrRsvd a => reservedAddr a
  | .rdRsvd a => reservedAddr a
  | .wrCtrl _ _ _ _ | .rdCtrl | .rdStatus | .wrPofs _ | .rdPofs | .wrVofs _ | .rdVofs | .wrFpitch _ | .rdFpitch
  | .wrFvol _ | .rdFvol | .wrPhase _ | .rdPhase | .wrAmp _ | .rdAmp | .rdPctl | .rdVctl | .rdCapp | .rdCapv
  | .rdSample | .rdStep | .wrRoStatus | .wrRoPctl | .wrRoVctl | .wrRoCapp | .wrRoCapv | .wrRoSample | .wrRoStep
  | .wrPtab _ _ | .rdPtab _ | .wrVtab _ _ | .rdVtab _ | .wrStab _ _ | .rdStab _ | .wrWtab _ _ | .rdWtab _
  | .hnop | .hrsv | .tick _ _ | .reset | .evrsv => true

end Sys2Proof
end

