-- ==== Sys2Proof/Decode.lean ====
section
/-! DEFINITION. Decoding and encoding of event words (30_encoding R85 to R89, R93, R96 to R99; 20_memory R66). The decoder
is total on 50 bits; a number that is no 50-bit word is rejected by name. -/

namespace Sys2Proof

/-- `EVT[49:48]`, the port (30_encoding R85). -/
def portOf (w : EventWord) : BitVec 2 := w.extractLsb' 48 2

/-- `EVT[47:46]`, the host operation code of format H (30_encoding R87). -/
def opOf (w : EventWord) : BitVec 2 := w.extractLsb' 46 2

/-- `EVT[45:32]`, the host address of format H (30_encoding R87). -/
def addrOf (w : EventWord) : HostAddr := w.extractLsb' 32 14

/-- `EVT[31:0]`, the write data of format H (30_encoding R87). -/
def dataOf (w : EventWord) : Word := w.extractLsb' 0 32

/-- `EVT[31:16]`, `cap_p` of format T (30_encoding R88). -/
def capPOf (w : EventWord) : Capture := w.extractLsb' 16 16

/-- `EVT[15:0]`, `cap_v` of format T (30_encoding R88). -/
def capVOf (w : EventWord) : Capture := w.extractLsb' 0 16

/-- The register at address `n`, for the register addresses 0x0000 .. 0x000D (20_memory R66). -/
def regAt : Nat → Option RegName
  | 0x0 => some .ctrl
  | 0x1 => some .status
  | 0x2 => some .pofs
  | 0x3 => some .vofs
  | 0x4 => some .fpitch
  | 0x5 => some .fvol
  | 0x6 => some .phase
  | 0x7 => some .amp
  | 0x8 => some .pctl
  | 0x9 => some .vctl
  | 0xA => some .capp
  | 0xB => some .capv
  | 0xC => some .sample
  | 0xD => some .step
  | _ => none

/-- The host address map (20_memory R66), a table's index being the low address bits (30_encoding R93). -/
def addrTarget (a : HostAddr) : Target :=
  if a.toNat < 0x0800 then
    match regAt a.toNat with
    | some r => .reg r
    | none => .reserved
  else if a.toNat < 0x1000 then .ptab (a.extractLsb' 0 11)
  else if a.toNat < 0x1400 then .vtab (a.extractLsb' 0 10)
  else if a.toNat < 0x1500 then .stab (a.extractLsb' 0 8)
  else if a.toNat < 0x2000 then .reserved
  else if a.toNat < 0x3000 then .wtab (a.extractLsb' 0 12)
  else .reserved

/-- A host write, by its address (30_encoding R96); the fields of `WR.CTRL` are `data[0]`, `data[1]`, `data[2]`,
`data[5:4]` (40_host_access R112). -/
def decodeWrite (a : HostAddr) (d : Word) : Instr :=
  match addrTarget a with
  | .reg .ctrl => .wrCtrl (d.getLsbD 0) (d.getLsbD 1) (d.getLsbD 2) (d.extractLsb' 4 2)
  | .reg .status => .wrRoStatus
  | .reg .pofs => .wrPofs d
  | .reg .vofs => .wrVofs d
  | .reg .fpitch => .wrFpitch d
  | .reg .fvol => .wrFvol d
  | .reg .phase => .wrPhase d
  | .reg .amp => .wrAmp d
  | .reg .pctl => .wrRoPctl
  | .reg .vctl => .wrRoVctl
  | .reg .capp => .wrRoCapp
  | .reg .capv => .wrRoCapv
  | .reg .sample => .wrRoSample
  | .reg .step => .wrRoStep
  | .ptab i => .wrPtab i d
  | .vtab i => .wrVtab i d
  | .stab i => .wrStab i d
  | .wtab i => .wrWtab i d
  | .reserved => .wrRsvd a

/-- A host read, by its address (30_encoding R96). -/
def decodeRead (a : HostAddr) : Instr :=
  match addrTarget a with
  | .reg .ctrl => .rdCtrl
  | .reg .status => .rdStatus
  | .reg .pofs => .rdPofs
  | .reg .vofs => .rdVofs
  | .reg .fpitch => .rdFpitch
  | .reg .fvol => .rdFvol
  | .reg .phase => .rdPhase
  | .reg .amp => .rdAmp
  | .reg .pctl => .rdPctl
  | .reg .vctl => .rdVctl
  | .reg .capp => .rdCapp
  | .reg .capv => .rdCapv
  | .reg .sample => .rdSample
  | .reg .step => .rdStep
  | .ptab i => .rdPtab i
  | .vtab i => .rdVtab i
  | .stab i => .rdStab i
  | .wtab i => .rdWtab i
  | .reserved => .rdRsvd a

/-- A host command, by its operation code (30_encoding R87). -/
def decodeHost (op : BitVec 2) (a : HostAddr) (d : Word) : Instr :=
  if op = 0#2 then .hnop
  else if op = 1#2 then decodeWrite a d
  else if op = 2#2 then decodeRead a
  else .hrsv

/-- The operation an event word stands for, by its port (30_encoding R85, R96). Total: every 50-bit value is an
operation or `EVRSV`. -/
def decode (w : EventWord) : Instr :=
  if portOf w = 0#2 then decodeHost (opOf w) (addrOf w) (dataOf w)
  else if portOf w = 1#2 then .tick (capPOf w) (capVOf w)
  else if portOf w = 2#2 then .reset
  else .evrsv

/-- Why a number is not decoded. -/
inductive DecodeReject where
  /-- The number has a bit set above bit 49: it is no event word (30_encoding R85, one length only). Safe. -/
  | notAnEventWord
deriving DecidableEq, Repr

/-- Decoding any number: rejected by name where it is no 50-bit word. -/
def decodeNumber (n : Nat) : Except DecodeReject Instr :=
  if n < 2 ^ 50 then .ok (decode (BitVec.ofNat 50 n)) else .error .notAnEventWord

/-- The event word whose `nbits` low bits are `w`'s and whose higher bits are 0, as spec/opcode_table.json numbers them
(bit i of the number is `EVT[i]`). -/
def eventOfNumber (nbits w : Nat) : EventWord := BitVec.ofNat 50 (w % 2 ^ nbits)

/-- The operation the decoder reads from the instruction whose bits are `w`, `nbits` of them given by the table. -/
def decodeTableWord (nbits w : Nat) : Option Instr :=
  match decodeNumber (w % 2 ^ nbits) with
  | .ok i => some i
  | .error _ => none

/-! ### Encoding -/

/-- An event word of format H (30_encoding R87). -/
def hostWord (op : BitVec 2) (a : HostAddr) (d : Word) : EventWord := (0#2 ++ op ++ a ++ d : BitVec (2 + 2 + 14 + 32))

/-- The host address of a register (20_memory R66). -/
def regAddr : RegName → HostAddr
  | .ctrl => 0x0000#14
  | .status => 0x0001#14
  | .pofs => 0x0002#14
  | .vofs => 0x0003#14
  | .fpitch => 0x0004#14
  | .fvol => 0x0005#14
  | .phase => 0x0006#14
  | .amp => 0x0007#14
  | .pctl => 0x0008#14
  | .vctl => 0x0009#14
  | .capp => 0x000A#14
  | .capv => 0x000B#14
  | .sample => 0x000C#14
  | .step => 0x000D#14

/-- The base address of a table (20_memory R66). -/
def tableBase : TableName → HostAddr
  | .ptab => 0x0800#14
  | .vtab => 0x1000#14
  | .stab => 0x1400#14
  | .wtab => 0x2000#14

/-- The host address of a table's entry: base + index (20_memory R66). -/
def entryAddr (t : TableName) (i : Nat) : HostAddr := tableBase t + BitVec.ofNat 14 i

/-- The data word of a `WR.CTRL` (10_state R25, 40_host_access R112), its ignored bits 0. -/
def ctrlData (mute div2 shapeEn : Bool) (wlen : BitVec 2) : Word :=
  (0#26 ++ wlen ++ 0#1 ++ BitVec.ofBool shapeEn ++ BitVec.ofBool div2 ++ BitVec.ofBool mute :
    BitVec (26 + 2 + 1 + 1 + 1 + 1))

/-- The word of a write (`op` = 1). -/
def writeWord (a : HostAddr) (d : Word) : EventWord := hostWord 1#2 a d

/-- The word of a read (`op` = 2), its ignored data 0. -/
def readWord (a : HostAddr) : EventWord := hostWord 2#2 a 0#32

/-- An event word of format T, its zero field 0 (30_encoding R88). -/
def tickWord (capP capV : Capture) : EventWord := (1#2 ++ 0#16 ++ capP ++ capV : BitVec (2 + 16 + 16 + 16))

/-- The event word of format R, its ignored bits 0 (30_encoding R89). -/
def resetWord : EventWord := (2#2 ++ 0#48 : BitVec (2 + 48))

/-- The event word of an operation (30_encoding R85 to R89, R96), every ignored bit 0, as an assembler emits it (R88,
R89). -/
def encode : Instr → EventWord
  | .wrCtrl m v s l => writeWord (regAddr .ctrl) (ctrlData m v s l)
  | .rdCtrl => readWord (regAddr .ctrl)
  | .rdStatus => readWord (regAddr .status)
  | .wrPofs d => writeWord (regAddr .pofs) d
  | .rdPofs => readWord (regAddr .pofs)
  | .wrVofs d => writeWord (regAddr .vofs) d
  | .rdVofs => readWord (regAddr .vofs)
  | .wrFpitch d => writeWord (regAddr .fpitch) d
  | .rdFpitch => readWord (regAddr .fpitch)
  | .wrFvol d => writeWord (regAddr .fvol) d
  | .rdFvol => readWord (regAddr .fvol)
  | .wrPhase d => writeWord (regAddr .phase) d
  | .rdPhase => readWord (regAddr .phase)
  | .wrAmp d => writeWord (regAddr .amp) d
  | .rdAmp => readWord (regAddr .amp)
  | .rdPctl => readWord (regAddr .pctl)
  | .rdVctl => readWord (regAddr .vctl)
  | .rdCapp => readWord (regAddr .capp)
  | .rdCapv => readWord (regAddr .capv)
  | .rdSample => readWord (regAddr .sample)
  | .rdStep => readWord (regAddr .step)
  | .wrRoStatus => writeWord (regAddr .status) 0#32
  | .wrRoPctl => writeWord (regAddr .pctl) 0#32
  | .wrRoVctl => writeWord (regAddr .vctl) 0#32
  | .wrRoCapp => writeWord (regAddr .capp) 0#32
  | .wrRoCapv => writeWord (regAddr .capv) 0#32
  | .wrRoSample => writeWord (regAddr .sample) 0#32
  | .wrRoStep => writeWord (regAddr .step) 0#32
  | .wrPtab i d => writeWord (entryAddr .ptab i.toNat) d
  | .rdPtab i => readWord (entryAddr .ptab i.toNat)
  | .wrVtab i d => writeWord (entryAddr .vtab i.toNat) d
  | .rdVtab i => readWord (entryAddr .vtab i.toNat)
  | .wrStab i d => writeWord (entryAddr .stab i.toNat) d
  | .rdStab i => readWord (entryAddr .stab i.toNat)
  | .wrWtab i d => writeWord (entryAddr .wtab i.toNat) d
  | .rdWtab i => readWord (entryAddr .wtab i.toNat)
  | .hnop => hostWord 0#2 0#14 0#32
  | .hrsv => hostWord 3#2 0#14 0#32
  | .wrRsvd a => writeWord a 0#32
  | .rdRsvd a => readWord a
  | .tick p v => tickWord p v
  | .reset => resetWord
  | .evrsv => (3#2 ++ 0#48 : BitVec (2 + 48))

/-! ### The opcode table -/

/-- One row of the operation map (30_encoding R96), on all 50 bits as in spec/opcode_table.json. -/
structure OpRow where
  mnemonic : String
  pat : EventWord
  mask : EventWord
deriving DecidableEq, Repr

/-- The rows of registers (first 28 rows of spec/opcode_table.json): one address each. -/
def registerRows : List OpRow :=
  [⟨"WR.CTRL", 0x0400000000000#50, 0x3FFFF00000000#50⟩, ⟨"RD.CTRL", 0x0800000000000#50, 0x3FFFF00000000#50⟩,
   ⟨"RD.STATUS", 0x0800100000000#50, 0x3FFFF00000000#50⟩,
   ⟨"WR.POFS", 0x0400200000000#50, 0x3FFFF00000000#50⟩, ⟨"RD.POFS", 0x0800200000000#50, 0x3FFFF00000000#50⟩,
   ⟨"WR.VOFS", 0x0400300000000#50, 0x3FFFF00000000#50⟩, ⟨"RD.VOFS", 0x0800300000000#50, 0x3FFFF00000000#50⟩,
   ⟨"WR.FPITCH", 0x0400400000000#50, 0x3FFFF00000000#50⟩, ⟨"RD.FPITCH", 0x0800400000000#50, 0x3FFFF00000000#50⟩,
   ⟨"WR.FVOL", 0x0400500000000#50, 0x3FFFF00000000#50⟩, ⟨"RD.FVOL", 0x0800500000000#50, 0x3FFFF00000000#50⟩,
   ⟨"WR.PHASE", 0x0400600000000#50, 0x3FFFF00000000#50⟩, ⟨"RD.PHASE", 0x0800600000000#50, 0x3FFFF00000000#50⟩,
   ⟨"WR.AMP", 0x0400700000000#50, 0x3FFFF00000000#50⟩, ⟨"RD.AMP", 0x0800700000000#50, 0x3FFFF00000000#50⟩,
   ⟨"RD.PCTL", 0x0800800000000#50, 0x3FFFF00000000#50⟩, ⟨"RD.VCTL", 0x0800900000000#50, 0x3FFFF00000000#50⟩,
   ⟨"RD.CAPP", 0x0800A00000000#50, 0x3FFFF00000000#50⟩, ⟨"RD.CAPV", 0x0800B00000000#50, 0x3FFFF00000000#50⟩,
   ⟨"RD.SAMPLE", 0x0800C00000000#50, 0x3FFFF00000000#50⟩, ⟨"RD.STEP", 0x0800D00000000#50, 0x3FFFF00000000#50⟩,
   ⟨"WR.RO.STATUS", 0x0400100000000#50, 0x3FFFF00000000#50⟩, ⟨"WR.RO.PCTL", 0x0400800000000#50, 0x3FFFF00000000#50⟩,
   ⟨"WR.RO.VCTL", 0x0400900000000#50, 0x3FFFF00000000#50⟩, ⟨"WR.RO.CAPP", 0x0400A00000000#50, 0x3FFFF00000000#50⟩,
   ⟨"WR.RO.CAPV", 0x0400B00000000#50, 0x3FFFF00000000#50⟩, ⟨"WR.RO.SAMPLE", 0x0400C00000000#50, 0x3FFFF00000000#50⟩,
   ⟨"WR.RO.STEP", 0x0400D00000000#50, 0x3FFFF00000000#50⟩]

/-- The rows of tables and of whole operation codes, up to `HRSV`. -/
def windowRows : List OpRow :=
  [⟨"WR.PTAB", 0x0480000000000#50, 0x3F80000000000#50⟩, ⟨"RD.PTAB", 0x0880000000000#50, 0x3F80000000000#50⟩,
   ⟨"WR.VTAB", 0x0500000000000#50, 0x3FC0000000000#50⟩, ⟨"RD.VTAB", 0x0900000000000#50, 0x3FC0000000000#50⟩,
   ⟨"WR.STAB", 0x0540000000000#50, 0x3FF0000000000#50⟩, ⟨"RD.STAB", 0x0940000000000#50, 0x3FF0000000000#50⟩,
   ⟨"WR.WTAB", 0x0600000000000#50, 0x3F00000000000#50⟩, ⟨"RD.WTAB", 0x0A00000000000#50, 0x3F00000000000#50⟩,
   ⟨"HNOP", 0x0000000000000#50, 0x3C00000000000#50⟩, ⟨"HRSV", 0x0C00000000000#50, 0x3C00000000000#50⟩]

/-- The two fall-through rows and the rows of the other ports. -/
def fallThroughRows : List OpRow :=
  [⟨"WR.RSVD", 0x0400000000000#50, 0x3C00000000000#50⟩, ⟨"RD.RSVD", 0x0800000000000#50, 0x3C00000000000#50⟩,
   ⟨"TICK", 0x1000000000000#50, 0x3000000000000#50⟩, ⟨"RESET", 0x2000000000000#50, 0x3000000000000#50⟩,
   ⟨"EVRSV", 0x3000000000000#50, 0x3000000000000#50⟩]

/-- The operation map in the order of 30_encoding R96: 43 rows. -/
def opRows : List OpRow := registerRows ++ windowRows ++ fallThroughRows

/-- Whether a word matches a row: `(EVT & mask) == match` (30_encoding R96). -/
def rowMatches (w : EventWord) (r : OpRow) : Bool := w &&& r.mask == r.pat

/-- The first row a word matches (30_encoding R96). -/
def firstRow (w : EventWord) : Option OpRow := opRows.find? (rowMatches w)

/-- The row's mnemonic of an operation, as spec/opcode_table.json spells it. -/
def mnemonicOf : Instr → String
  | .wrCtrl _ _ _ _ => "WR.CTRL"
  | .rdCtrl => "RD.CTRL"
  | .rdStatus => "RD.STATUS"
  | .wrPofs _ => "WR.POFS"
  | .rdPofs => "RD.POFS"
  | .wrVofs _ => "WR.VOFS"
  | .rdVofs => "RD.VOFS"
  | .wrFpitch _ => "WR.FPITCH"
  | .rdFpitch => "RD.FPITCH"
  | .wrFvol _ => "WR.FVOL"
  | .rdFvol => "RD.FVOL"
  | .wrPhase _ => "WR.PHASE"
  | .rdPhase => "RD.PHASE"
  | .wrAmp _ => "WR.AMP"
  | .rdAmp => "RD.AMP"
  | .rdPctl => "RD.PCTL"
  | .rdVctl => "RD.VCTL"
  | .rdCapp => "RD.CAPP"
  | .rdCapv => "RD.CAPV"
  | .rdSample => "RD.SAMPLE"
  | .rdStep => "RD.STEP"
  | .wrRoStatus => "WR.RO.STATUS"
  | .wrRoPctl => "WR.RO.PCTL"
  | .wrRoVctl => "WR.RO.VCTL"
  | .wrRoCapp => "WR.RO.CAPP"
  | .wrRoCapv => "WR.RO.CAPV"
  | .wrRoSample => "WR.RO.SAMPLE"
  | .wrRoStep => "WR.RO.STEP"
  | .wrPtab _ _ => "WR.PTAB"
  | .rdPtab _ => "RD.PTAB"
  | .wrVtab _ _ => "WR.VTAB"
  | .rdVtab _ => "RD.VTAB"
  | .wrStab _ _ => "WR.STAB"
  | .rdStab _ => "RD.STAB"
  | .wrWtab _ _ => "WR.WTAB"
  | .rdWtab _ => "RD.WTAB"
  | .hnop => "HNOP"
  | .hrsv => "HRSV"
  | .wrRsvd _ => "WR.RSVD"
  | .rdRsvd _ => "RD.RSVD"
  | .tick _ _ => "TICK"
  | .reset => "RESET"
  | .evrsv => "EVRSV"

end Sys2Proof
end

