-- ==== Sys2Proof/Machine/State.lean ====
section
/-! DEFINITION. The state of T32-WSC (10_state R20), the input and output ports the model keeps beside it (30_encoding
R94), its reset value (10_state R49), and the reasons a step could stop. -/

namespace Sys2Proof.Machine

/-- The stored entries of one table: (index, entry), indices strictly rising. An index that is not listed has not been
written since power-on and reads as the table's free power-on value (10_state R45; log entry 4). The block's smallest
addressable unit is the word or entry, never a byte (20_memory R61, R62; log entry 6). -/
abbrev Entries (w : Nat) := List (Nat × BitVec w)

/-- The four tables (10_state R40 to R43). -/
structure Memory where
  ptab : Entries 32
  vtab : Entries 10
  stab : Entries 16
  wtab : Entries 16
deriving DecidableEq, Repr

/-- The indices rise strictly from `lo` and stay below `n`. -/
def entriesRise (n : Nat) {w : Nat} : Nat → Entries w → Bool
  | _, [] => true
  | lo, (i, _) :: rest => decide (lo ≤ i) && decide (i < n) && entriesRise n (i + 1) rest

/-- The canonical form of the tables: indices strictly rising and inside the table. An unlisted index holds no written
value, so no listed entry equals what an unlisted one holds. -/
def Memory.wf (m : Memory) : Bool :=
  entriesRise Config.ptabN 0 m.ptab && entriesRise Config.vtabN 0 m.vtab &&
    entriesRise Config.stabN 0 m.stab && entriesRise Config.wtabN 0 m.wtab

/-- A host response `(err, rdata)` (30_encoding R92). -/
structure Response where
  err : Bool
  rdata : Word
deriving DecidableEq, Repr

/-- The state: the components of 10_state R20, then the model's own port fields (`pending`, `resp`, `emitted`), which are
inputs and outputs of the block and no state of it (30_encoding R94; log entries 1 and 3). -/
structure State where
  /-- `CTRL.MUTE` (R25). -/
  mute : Bool
  /-- `CTRL.DIV2` (R25). -/
  div2 : Bool
  /-- `CTRL.SHAPE_EN` (R25). -/
  shapeEn : Bool
  /-- `CTRL.WLEN`, legal 0, 1, 2 (R25). -/
  wlen : BitVec 2
  /-- `DIVPH` (R23). -/
  divph : Bool
  /-- `POFS`, s32 (R27). -/
  pofs : Word
  /-- `VOFS`, s32 (R28). -/
  vofs : Word
  /-- `FPITCH`, s32 (R29). -/
  fpitch : Word
  /-- `FVOL`, s32 (R30). -/
  fvol : Word
  /-- `PHASE`, u32 (R31). -/
  phase : Word
  /-- `AMP`, u30, at most `AMP_MAX` (R32). -/
  amp : BitVec 30
  /-- `STEP`, u32 (R33). -/
  stepReg : Word
  /-- `PCTL`, u32, at least 1 (R34). -/
  pctl : Word
  /-- `VCTL`, u16, at least 1 (R35). -/
  vctl : BitVec 16
  /-- `CAPP`, u16 (R36). -/
  capp : Capture
  /-- `CAPV`, u16 (R37). -/
  capv : Capture
  /-- `SAMPLE`, s16 (R38). -/
  sample : Sample
  /-- `PTAB`, `VTAB`, `STAB`, `WTAB` (R40 to R43). -/
  mem : Memory
  /-- The MODEL's own: the event words the outside agents still present, next first (20_memory R71; log entry 1). -/
  pending : List EventWord
  /-- The MODEL's own: the host response of the latest event, absent where it gave none (30_encoding R92). -/
  resp : Option Response
  /-- The MODEL's own: the sample the latest event delivered, absent where `sample_valid` = 0 (30_encoding R95). -/
  emitted : Option Sample
deriving DecidableEq, Repr

/-- Why the machine would stop with a fault. There is no constructor: the block raises no exception and has no fault
state, and a model's step function is total (60_exceptions R245, R263). -/
inductive Fault where
deriving DecidableEq, Repr

/-- Why a step would be refused. -/
inductive Refusal where
  /-- Raised only by a refused arm of `exec`: an operation without a meaning yet. No arm is refused. Safe. -/
  | notModelled (mnemonic : String)
deriving DecidableEq, Repr

/-- The outcome of one event. -/
abbrev Result := Host.Outcome State Fault Refusal

/-- The block right after power-on: the RESET values of 10_state R49 over tables nothing has written (70_reset R265). -/
def State.reset : State :=
  { mute := true, div2 := false, shapeEn := false, wlen := 0#2, divph := false,
    pofs := 0#32, vofs := 0#32, fpitch := 0#32, fvol := 0#32,
    phase := 0#32, amp := 0#30, stepReg := 0#32, pctl := 1#32, vctl := 1#16,
    capp := 0#16, capv := 0#16, sample := 0#16,
    mem := { ptab := [], vtab := [], stab := [], wtab := [] },
    pending := [], resp := none, emitted := none }

end Sys2Proof.Machine
end

