-- ==== Sys2Proof/Machine/Operands.lean ====
section
/-! DEFINITION. The exact arithmetic of the spec (00_scope R10 to R12, R16) and how `data` becomes a stored value
(30_encoding R93, 20_memory R64). Everything is computed in unbounded integers and narrowed once. -/

namespace Sys2Proof.Machine

/-- `clamp(v, lo, hi)` (00_scope R11). -/
def clamp (v lo hi : Int) : Int := if v < lo then lo else if v > hi then hi else v

/-- `tdiv(a, k)`: division by 2^k truncating toward zero (00_scope R12). -/
def tdiv (a : Int) (k : Nat) : Int := if 0 ≤ a then a / 2 ^ k else -((-a) / 2 ^ k)

/-- `lg(v)` for `v ≥ 1`: the position of the most significant set bit (00_scope R16). -/
def lg (v : Nat) : Nat := v.log2

/-- `as_s32(data)` (00_scope R10). -/
def asS32 (d : Word) : Int := d.toInt

/-- `as_u32(v)` of an s32, and the reading of a narrower value into a 32-bit word: zero extension of an unsigned value,
sign extension of a signed one (00_scope R10, 20_memory R64). -/
def asU32 (v : Int) : Word := BitVec.ofInt 32 v

/-- What a write of `AMP` stores: `min(data, AMP_MAX)`, `data` read as u32 (40_host_access R123). -/
def ampOfData (d : Word) : BitVec 30 := BitVec.ofNat 30 (min d.toNat Config.ampMax)

/-- What a write of a `VTAB` entry stores: `min(data, 1023)`, `data` read as u32 (40_host_access R133). -/
def vtabOfData (d : Word) : Int := min (d.toNat : Int) 1023

/-- What a write of a `PTAB` entry stores: `data` as it is (40_host_access R135). -/
def ptabOfData (d : Word) : Int := (d.toNat : Int)

/-- What a write of a `WTAB` or `STAB` entry stores: `clamp(as_s32(data), −32768, 32767)` (40_host_access R137, R139). -/
def s16OfData (d : Word) : Int := clamp (asS32 d) (-32768) 32767

/-! ### The key (43_lookup) -/

/-- The 23-bit mantissa of the key (43_lookup R185). -/
def mantissa (v : Nat) : Nat :=
  if lg v ≤ 23 then (v - 2 ^ lg v) * 2 ^ (23 - lg v) else (v - 2 ^ lg v) / 2 ^ (lg v - 23)

/-- `Key(v)` for `v ≥ 1` (43_lookup R185); `Key(0)` is not defined there and is a free value here (log entry 7). -/
def key (v : Nat) : Nat := if v = 0 then Config.keyOfZero.toNat else lg v * 2 ^ 23 + mantissa v

/-- The table index of a key, `k[27:17]` (43_lookup R186). -/
def keyIdx (k : Nat) : Nat := k / 2 ^ 17 % 2 ^ 11

/-- The interpolation fraction of a key, `k[16:0]` (43_lookup R186). -/
def keyFrac (k : Nat) : Nat := k % 2 ^ 17

end Sys2Proof.Machine
end

