-- ==== Sys2Proof/Machine/Flags.lean ====
section
/-! DEFINITION. The flag-like bits of the block (10_state R46: there are no condition codes): the words `CTRL` and
`STATUS` as the host reads them, the divider phase, and the render condition. -/

namespace Sys2Proof.Machine

/-- `CTRL` as one word: bit 0 `MUTE`, bit 1 `DIV2`, bit 2 `SHAPE_EN`, bits 5:4 `WLEN`, the others 0 (10_state R25,
40_host_access R113). -/
def ctrlWord (s : State) : Word :=
  (0#26 ++ s.wlen ++ 0#1 ++ BitVec.ofBool s.shapeEn ++ BitVec.ofBool s.div2 ++ BitVec.ofBool s.mute :
    BitVec (26 + 2 + 1 + 1 + 1 + 1))

/-- `STATUS` as one word: bit 0 `MUTE`, bit 1 `DIVPH`, the others 0 (10_state R26, 40_host_access R114). -/
def statusWord (s : State) : Word :=
  (0#30 ++ BitVec.ofBool s.divph ++ BitVec.ofBool s.mute : BitVec (30 + 1 + 1))

/-- Whether a TICK in this state is a render tick: `DIV2` = 0 or `DIVPH` = 0 (45_tick R215 line 1, R216). -/
def renders (s : State) : Bool := !s.div2 || !s.divph

/-- `DIVPH` after a TICK: toggled while `DIV2` = 1, else 0 (45_tick R215 line 10, R217). -/
def nextDivph (s : State) : Bool := if s.div2 then !s.divph else false

/-- `WLEN` = 3, the one illegal field value of `CTRL` (10_state R25, 40_host_access R112). -/
def wlenIllegal (l : BitVec 2) : Bool := l == 3#2

/-- `WMASK` = (1024 << WLEN) − 1 (10_state R39). -/
def wmask (l : BitVec 2) : Nat := 1024 * 2 ^ l.toNat - 1

end Sys2Proof.Machine
end

