-- ==== Sys2Proof/Machine/Ops.lean ====
section
/-! DEFINITION. The shared operations: table access (00_scope R14), interpolation (43_lookup R187), the host response
(30_encoding R92), the register writes of a host command, and the event port. The block takes no exception and returns
from none (60_exceptions R245, R250): the one shared operation in that place is the error response `reject`
(60_exceptions R247), a normal completion that changes no state of the block. -/

namespace Sys2Proof.Machine

/-! ### Tables -/

/-- The entry written at an index, if one was. -/
def lookupEntry {w : Nat} : Entries w → Nat → Option (BitVec w)
  | [], _ => none
  | (j, v) :: rest, i => if i = j then some v else lookupEntry rest i

/-- Store an entry at an index, keeping the indices strictly rising. -/
def insertEntry {w : Nat} : Entries w → Nat → BitVec w → Entries w
  | [], i, v => [(i, v)]
  | (j, u) :: rest, i, v =>
    if i < j then (i, v) :: (j, u) :: rest
    else if i = j then (i, v) :: rest
    else (j, u) :: insertEntry rest i v

/-- The number of entries of a table (00_scope R7). -/
def tableSize : TableName → Nat
  | .ptab => Config.ptabN
  | .vtab => Config.vtabN
  | .stab => Config.stabN
  | .wtab => Config.wtabN

/-- `MemRead(T, i)`: the entry as the integer of its type: u32, u10, s16, s16 (00_scope R14, 10_state R40 to R43). An
entry nothing has written reads as its free, stable power-on value (10_state R45). -/
def memRead (m : Memory) : TableName → Nat → Int
  | .ptab, i => ((lookupEntry m.ptab i).getD (Config.powerOnPtab i)).toNat
  | .vtab, i => ((lookupEntry m.vtab i).getD (Config.powerOnVtab i)).toNat
  | .stab, i => ((lookupEntry m.stab i).getD (Config.powerOnStab i)).toInt
  | .wtab, i => ((lookupEntry m.wtab i).getD (Config.powerOnWtab i)).toInt

/-- `MemWrite(T, i, v)`: entry `i` becomes `v`, which the caller has brought into the entry's range (00_scope R14). -/
def memWrite (m : Memory) : TableName → Nat → Int → Memory
  | .ptab, i, v => { m with ptab := insertEntry m.ptab i (BitVec.ofInt 32 v) }
  | .vtab, i, v => { m with vtab := insertEntry m.vtab i (BitVec.ofInt 10 v) }
  | .stab, i, v => { m with stab := insertEntry m.stab i (BitVec.ofInt 16 v) }
  | .wtab, i, v => { m with wtab := insertEntry m.wtab i (BitVec.ofInt 16 v) }

/-- `Interp(T, n, idx, frac, fb)` with `n` the table's size: the upper neighbour clamps at the last entry (43_lookup
R187). The result is the value times 2^fb. -/
def interp (m : Memory) (t : TableName) (idx frac fb : Nat) : Int :=
  memRead m t idx * 2 ^ fb +
    (memRead m t (min (idx + 1) (tableSize t - 1)) - memRead m t idx) * (frac : Int)

/-! ### Host responses (30_encoding R92) -/

/-- The ports after a host command: its response, and no sample (40_host_access R110). -/
def State.answer (s : State) (err : Bool) (rdata : Word) : State :=
  { s with resp := some { err := err, rdata := rdata }, emitted := none }

/-- The ports after an event with no host response and no sample. -/
def State.silent (s : State) : State := { s with resp := none, emitted := none }

/-- `resp <- (0, 0)`: a successful write or an HNOP. -/
def accept (s : State) : Result := .next (s.answer false 0#32)

/-- `resp <- (0, value)`: a successful read. -/
def answerRead (s : State) (v : Word) : Result := .next (s.answer false v)

/-- `resp <- (1, 0)`, no state change: the error response (30_encoding R92, 60_exceptions R247). -/
def reject (s : State) : Result := .next (s.answer true 0#32)

/-! ### Register and table writes of a host command -/

/-- The four fields of `CTRL`, all written together (40_host_access R112). -/
def State.setCtrl (s : State) (mute div2 shapeEn : Bool) (wlen : BitVec 2) : State :=
  { s with mute := mute, div2 := div2, shapeEn := shapeEn, wlen := wlen }

/-- `x[POFS] <- v`. -/
def State.setPofs (s : State) (v : Word) : State := { s with pofs := v }

/-- `x[VOFS] <- v`. -/
def State.setVofs (s : State) (v : Word) : State := { s with vofs := v }

/-- `x[FPITCH] <- v`. -/
def State.setFpitch (s : State) (v : Word) : State := { s with fpitch := v }

/-- `x[FVOL] <- v`. -/
def State.setFvol (s : State) (v : Word) : State := { s with fvol := v }

/-- `x[PHASE] <- v`. -/
def State.setPhase (s : State) (v : Word) : State := { s with phase := v }

/-- `x[AMP] <- v`. -/
def State.setAmp (s : State) (v : BitVec 30) : State := { s with amp := v }

/-- `MemWrite(T, i, v)` on the state. -/
def State.setEntry (s : State) (t : TableName) (i : Nat) (v : Int) : State := { s with mem := memWrite s.mem t i v }

/-! ### Updates of the tick engine -/

/-- `x[STEP] <- v`. -/
def State.setStep (s : State) (v : Word) : State := { s with stepReg := v }

/-- `x[SAMPLE] <- v; emit sample(v)` (44_synthesis R209). -/
def State.deliver (s : State) (v : Sample) : State := { s with sample := v, emitted := some v }

/-- `x[DIVPH] <- v`. -/
def State.setDivph (s : State) (v : Bool) : State := { s with divph := v }

/-- The pitch accumulator and its previous capture (45_tick R215 line 11). -/
def State.setPitchChannel (s : State) (c : Word × Capture) : State := { s with fpitch := c.1, capp := c.2 }

/-- The volume accumulator and its previous capture (45_tick R215 line 12). -/
def State.setVolChannel (s : State) (c : Word × Capture) : State := { s with fvol := c.1, capv := c.2 }

/-- `x[PCTL] <- v`. -/
def State.setPctl (s : State) (v : Word) : State := { s with pctl := v }

/-- `x[VCTL] <- v`. -/
def State.setVctl (s : State) (v : BitVec 16) : State := { s with vctl := v }

/-! ### The event port -/

/-- The event word the next step performs. Where no event is pending the host port is idle, `h_op` = 0, which is the word
of an HNOP (30_encoding R94, 40_host_access R111; log entry 2). -/
def fetchEvent (s : State) : EventWord := s.pending.headD 0#50

/-- The state with that event taken off the port. -/
def State.popEvent (s : State) : State := { s with pending := s.pending.tail }

/-- The state with an event word presented as the next one. -/
def State.pushEvent (s : State) (w : EventWord) : State := { s with pending := w :: s.pending }

end Sys2Proof.Machine
end

