-- ==== Sys2Proof/Machine/HostOther.lean ====
section
/-! DEFINITION. The idle command, the rejected commands (40_host_access R111, section 8) and the reserved event word
(30_encoding R97). Each rejected command answers `(1, 0)` and changes no state of the block. -/

namespace Sys2Proof.Machine

/-- `HNOP` (R111). -/
def execHnop (s : State) : Result := accept s

/-- `HRSV` (R141). -/
def execHrsv (s : State) : Result := reject s

/-- `WR.RO.STATUS` (R145). -/
def execWrRoStatus (s : State) : Result := reject s

/-- `WR.RO.PCTL` (R145). -/
def execWrRoPctl (s : State) : Result := reject s

/-- `WR.RO.VCTL` (R145). -/
def execWrRoVctl (s : State) : Result := reject s

/-- `WR.RO.CAPP` (R145). -/
def execWrRoCapp (s : State) : Result := reject s

/-- `WR.RO.CAPV` (R145). -/
def execWrRoCapv (s : State) : Result := reject s

/-- `WR.RO.SAMPLE` (R145). -/
def execWrRoSample (s : State) : Result := reject s

/-- `WR.RO.STEP` (R145). -/
def execWrRoStep (s : State) : Result := reject s

/-- `WR.RSVD` (R146): nothing is written anywhere, whatever the address. -/
def execWrRsvd (_addr : HostAddr) (s : State) : Result := reject s

/-- `RD.RSVD` (R147): `rdata` is 0. -/
def execRdRsvd (_addr : HostAddr) (s : State) : Result := reject s

/-- `EVRSV` (30_encoding R97): an event that changes nothing and produces nothing, one of the two treatments
93_implementation_defined V1 allows (DESIGN CHOICE: log entry 5). -/
def execEvrsv (s : State) : Result := .next s.silent

end Sys2Proof.Machine
end

