-- ==== Sys2Proof/Machine/HostRegs.lean ====
section
/-! DEFINITION. Host commands on the control and status registers, the offsets, the accumulators, the amplitude, the
phase and the observation registers (40_host_access sections 2 to 6). -/

namespace Sys2Proof.Machine

/-- `WR.CTRL` (R112): `WLEN` = 3 writes nothing and answers the error response. -/
def execWrCtrl (mute div2 shapeEn : Bool) (wlen : BitVec 2) (s : State) : Result :=
  if wlenIllegal wlen then reject s else accept (s.setCtrl mute div2 shapeEn wlen)

/-- `RD.CTRL` (R113). -/
def execRdCtrl (s : State) : Result := answerRead s (ctrlWord s)

/-- `RD.STATUS` (R114). -/
def execRdStatus (s : State) : Result := answerRead s (statusWord s)

/-- `WR.POFS` (R115). -/
def execWrPofs (data : Word) (s : State) : Result := accept (s.setPofs data)

/-- `RD.POFS` (R116). -/
def execRdPofs (s : State) : Result := answerRead s s.pofs

/-- `WR.VOFS` (R117). -/
def execWrVofs (data : Word) (s : State) : Result := accept (s.setVofs data)

/-- `RD.VOFS` (R118). -/
def execRdVofs (s : State) : Result := answerRead s s.vofs

/-- `WR.FPITCH` (R119). -/
def execWrFpitch (data : Word) (s : State) : Result := accept (s.setFpitch data)

/-- `RD.FPITCH` (R120). -/
def execRdFpitch (s : State) : Result := answerRead s s.fpitch

/-- `WR.FVOL` (R121). -/
def execWrFvol (data : Word) (s : State) : Result := accept (s.setFvol data)

/-- `RD.FVOL` (R122). -/
def execRdFvol (s : State) : Result := answerRead s s.fvol

/-- `WR.PHASE` (R125). -/
def execWrPhase (data : Word) (s : State) : Result := accept (s.setPhase data)

/-- `RD.PHASE` (R126). -/
def execRdPhase (s : State) : Result := answerRead s s.phase

/-- `WR.AMP` (R123): saturates at `AMP_MAX`. -/
def execWrAmp (data : Word) (s : State) : Result := accept (s.setAmp (ampOfData data))

/-- `RD.AMP` (R124). -/
def execRdAmp (s : State) : Result := answerRead s (s.amp.setWidth 32)

/-- `RD.PCTL` (R127). -/
def execRdPctl (s : State) : Result := answerRead s s.pctl

/-- `RD.VCTL` (R128). -/
def execRdVctl (s : State) : Result := answerRead s (s.vctl.setWidth 32)

/-- `RD.CAPP` (R129). -/
def execRdCapp (s : State) : Result := answerRead s (s.capp.setWidth 32)

/-- `RD.CAPV` (R130). -/
def execRdCapv (s : State) : Result := answerRead s (s.capv.setWidth 32)

/-- `RD.SAMPLE` (R131): sign extended. -/
def execRdSample (s : State) : Result := answerRead s (s.sample.signExtend 32)

/-- `RD.STEP` (R132). -/
def execRdStep (s : State) : Result := answerRead s s.stepReg

end Sys2Proof.Machine
end

