-- ==== Sys2Proof/Machine/HostTables.lean ====
section
/-! DEFINITION. Host commands on the four tables (40_host_access section 7): a write brings `data` into the entry's range
(20_memory R64), a read extends the entry to 32 bits. -/

namespace Sys2Proof.Machine

/-- `WR.PTAB` (R135). -/
def execWrPtab (i : BitVec 11) (data : Word) (s : State) : Result := accept (s.setEntry .ptab i.toNat (ptabOfData data))

/-- `RD.PTAB` (R136). -/
def execRdPtab (i : BitVec 11) (s : State) : Result := answerRead s (asU32 (memRead s.mem .ptab i.toNat))

/-- `WR.VTAB` (R133). -/
def execWrVtab (i : BitVec 10) (data : Word) (s : State) : Result := accept (s.setEntry .vtab i.toNat (vtabOfData data))

/-- `RD.VTAB` (R134). -/
def execRdVtab (i : BitVec 10) (s : State) : Result := answerRead s (asU32 (memRead s.mem .vtab i.toNat))

/-- `WR.STAB` (R139). -/
def execWrStab (i : BitVec 8) (data : Word) (s : State) : Result := accept (s.setEntry .stab i.toNat (s16OfData data))

/-- `RD.STAB` (R140). -/
def execRdStab (i : BitVec 8) (s : State) : Result := answerRead s (asU32 (memRead s.mem .stab i.toNat))

/-- `WR.WTAB` (R137). -/
def execWrWtab (i : BitVec 12) (data : Word) (s : State) : Result := accept (s.setEntry .wtab i.toNat (s16OfData data))

/-- `RD.WTAB` (R138). -/
def execRdWtab (i : BitVec 12) (s : State) : Result := answerRead s (asU32 (memRead s.mem .wtab i.toNat))

end Sys2Proof.Machine
end

