-- ==== Sys2Proof/Machine/Filter.lean ====
section
/-! DEFINITION. Period measurement, the exponential period filter and the control values (42_period_filter). -/

namespace Sys2Proof.Machine

/-- The period of a channel: capture difference modulo 2^16 (42_period_filter R171). -/
def period (last cap : Capture) : Nat := (cap - last).toNat

/-- The period after the doubling heuristic, an unbounded integer (42_period_filter R173). -/
def doubledPeriod (p : Config.Params) (per : Nat) : Nat := if per < p.perThresh then 2 * per else per

/-- The scaled period delta, saturated to s32 (42_period_filter R174). -/
def filterTarget (p : Config.Params) (per : Nat) : Int :=
  clamp (((doubledPeriod p per : Int) - (p.perCenter : Int)) * 2 ^ p.perScaleShift) (-2 ^ 31) (2 ^ 31 - 1)

/-- One update of an accumulator toward a target: subtract, divide, add (42_period_filter R175, R176). -/
def filterUpdate (p : Config.Params) (f : Word) (tgt : Int) : Word :=
  BitVec.ofInt 32 (f.toInt + tdiv (tgt - f.toInt) p.filtShift)

/-- `FilterStep(F, last, cap)` (42_period_filter R179): a zero period leaves the accumulator as it is (R172); the
previous capture is always replaced (R171). -/
def filterStep (p : Config.Params) (f : Word) (last cap : Capture) : Word × Capture :=
  if period last cap = 0 then (f, cap) else (filterUpdate p f (filterTarget p (period last cap)), cap)

/-- The pitch control value (42_period_filter R177). -/
def pitchControl (p : Config.Params) (f ofs : Word) : Word :=
  BitVec.ofInt 32 (clamp ((f.toInt - ofs.toInt) * (p.pitchMul : Int)) 1 (2 ^ 32 - 1))

/-- The volume control value (42_period_filter R178). -/
def volControl (p : Config.Params) (f ofs : Word) : BitVec 16 :=
  BitVec.ofInt 16 (clamp (tdiv (f.toInt - ofs.toInt) p.volNormShift) 1 65535)

end Sys2Proof.Machine
end

