-- ==== Sys2Proof/Machine/Lookup.lean ====
section
/-! DEFINITION. Pitch and volume table lookup and the amplitude smoother (43_lookup R185 to R191). -/

namespace Sys2Proof.Machine

/-- The interpolator's result for a control value: index and fraction are the halves of its key, 17 fraction bits
(43_lookup R186, R187). -/
def lookupAcc (m : Memory) (t : TableName) (v : Nat) : Int := interp m t (keyIdx (key v)) (keyFrac (key v)) 17

/-- The phase step of a pitch control value: `max(0, acc >> 17)` (43_lookup R189). -/
def pitchStep (m : Memory) (pctl : Word) : Word :=
  BitVec.ofInt 32 (max 0 (lookupAcc m .ptab pctl.toNat / 2 ^ 17))

/-- The amplitude target of a volume control value: `acc << 3`, in the format of `AMP` (43_lookup R190). -/
def ampTarget (m : Memory) (vctl : BitVec 16) : Int := lookupAcc m .vtab vctl.toNat * 2 ^ 3

/-- The amplitude smoother: `AMP + tdiv(amp_tgt − AMP, AMP_SHIFT)` (43_lookup R191). -/
def smoothAmp (p : Config.Params) (amp : BitVec 30) (tgt : Int) : BitVec 30 :=
  BitVec.ofInt 30 ((amp.toNat : Int) + tdiv (tgt - (amp.toNat : Int)) p.ampShift)

end Sys2Proof.Machine
end

