-- ==== Sys2Proof/Machine/Synth.lean ====
section
/-! DEFINITION. Waveform interpolation, amplitude scaling, waveshaping and the output clamp (44_synthesis R202 to R211). -/

namespace Sys2Proof.Machine

/-- `idx12`, the table position before masking: `PHASE[31:20]` (44_synthesis R202). -/
def phaseIdx (phase : Word) : Nat := phase.toNat / 2 ^ 20

/-- `frac20`, the interpolation fraction: `PHASE[19:0]` (44_synthesis R202). -/
def phaseFrac (phase : Word) : Nat := phase.toNat % 2 ^ 20

/-- The lower waveform index `i0` (44_synthesis R203). -/
def waveIdx0 (wlen : BitVec 2) (phase : Word) : Nat := phaseIdx phase &&& wmask wlen

/-- The upper waveform index `i1`, wrapping to entry 0 at the end of the table (44_synthesis R203). -/
def waveIdx1 (wlen : BitVec 2) (phase : Word) : Nat := (phaseIdx phase + 1) &&& wmask wlen

/-- The interpolated waveform value times 2^20, no rounding (44_synthesis R204). -/
def waveInterp (m : Memory) (wlen : BitVec 2) (phase : Word) : Int :=
  memRead m .wtab (waveIdx0 wlen phase) * 2 ^ 20 +
    (memRead m .wtab (waveIdx1 wlen phase) - memRead m .wtab (waveIdx0 wlen phase)) * (phaseFrac phase : Int)

/-- Amplitude scaling: one product, one truncating division by 2^50 (44_synthesis R206). -/
def scaleAmp (w : Int) (amp : BitVec 30) : Int := tdiv (w * (amp.toNat : Int)) 50

/-- Waveshaping through `STAB`: `u = y + 32768`, index `u[15:8]`, fraction `u[7:0]` (44_synthesis R207). -/
def shapeSample (m : Memory) (y : Int) : Int :=
  tdiv (interp m .stab ((y + 32768).toNat / 2 ^ 8 % 2 ^ 8) ((y + 32768).toNat % 2 ^ 8) 8) 8

/-- The sample before the final clamp, of an unmuted tick (44_synthesis R211 lines 2 to 10). -/
def renderedSample (s : State) : Int :=
  if s.shapeEn then shapeSample s.mem (scaleAmp (waveInterp s.mem s.wlen s.phase) s.amp)
  else scaleAmp (waveInterp s.mem s.wlen s.phase) s.amp

/-- `SynthSample()` (44_synthesis R211): 0 when muted (R210), else the clamped sample (R208). -/
def synthSample (s : State) : Int := if s.mute then 0 else clamp (renderedSample s) (-32768) 32767

end Sys2Proof.Machine
end

