-- ==== Sys2Proof/Machine/Tick.lean ====
section
/-! DEFINITION. The TICK event and the RESET event (45_tick). TICK is the three parts of R215 in their fixed order; each
part takes the parameters of 00_scope R7 as an argument. -/

namespace Sys2Proof.Machine

/-- Lines 4 and 5 of 45_tick R215: the pitch lookup writes `STEP`, then `PHASE` advances by it modulo 2^32
(43_lookup R189, 44_synthesis R201). -/
def advancePhase (s : State) : State :=
  (s.setStep (pitchStep s.mem s.pctl)).setPhase (s.phase + pitchStep s.mem s.pctl)

/-- Lines 3 to 5: while muted, `STEP` and `PHASE` keep their values (45_tick R216). -/
def pitchPart (s : State) : State := if s.mute then s else advancePhase s

/-- Lines 6 and 7: volume lookup and amplitude smoothing, muted or not (45_tick R216). -/
def ampPart (p : Config.Params) (s : State) : State := s.setAmp (smoothAmp p s.amp (ampTarget s.mem s.vctl))

/-- Lines 8 and 9: compute and deliver the sample (44_synthesis R209, R211). -/
def outputPart (s : State) : State := s.deliver (BitVec.ofInt 16 (synthSample s))

/-- Part S, lines 1 to 9: skipped whole on a tick that is not a render tick (45_tick R216). -/
def partS (p : Config.Params) (s : State) : State :=
  if renders s then outputPart (ampPart p (pitchPart s)) else s

/-- Part D, line 10 (45_tick R217). -/
def partD (s : State) : State := s.setDivph (nextDivph s)

/-- Lines 11 and 12: both channels filter their captures (42_period_filter R179). -/
def filterPart (p : Config.Params) (capP capV : Capture) (s : State) : State :=
  (s.setPitchChannel (filterStep p s.fpitch s.capp capP)).setVolChannel (filterStep p s.fvol s.capv capV)

/-- Lines 13 and 14: latch the control values (42_period_filter R177, R178). -/
def controlPart (p : Config.Params) (s : State) : State :=
  (s.setPctl (pitchControl p s.fpitch s.pofs)).setVctl (volControl p s.fvol s.vofs)

/-- Part F, lines 11 to 14: on every tick (45_tick R218). -/
def partF (p : Config.Params) (capP capV : Capture) (s : State) : State := controlPart p (filterPart p capP capV s)

/-- The whole event (45_tick R215) for given parameters. It gives no host response, and a sample only in part S. -/
def tickWith (p : Config.Params) (capP capV : Capture) (s : State) : State := partF p capP capV (partD (partS p s.silent))

/-- `TICK` (45_tick R215), with the machine's parameters. -/
def execTick (capP capV : Capture) (s : State) : Result := .next (tickWith Config.params capP capV s)

/-- The register values of a RESET (45_tick R222); the tables keep their contents (10_state R44). -/
def State.resetRegisters (s : State) : State :=
  { s with
    mute := true, div2 := false, shapeEn := false, wlen := 0#2,
    divph := false,
    pofs := 0#32, vofs := 0#32, fpitch := 0#32, fvol := 0#32,
    phase := 0#32, amp := 0#30, stepReg := 0#32,
    pctl := 1#32, vctl := 1#16, capp := 0#16, capv := 0#16, sample := 0#16 }

/-- `RESET` (45_tick R222): no sample and no host response. -/
def execReset (s : State) : Result := .next s.resetRegisters.silent

end Sys2Proof.Machine
end

