-- ==== Sys2Proof/Machine/Dispatch.lean ====
section
/-! DEFINITION. One arm per operation, each a direct call of its meaning. -/

namespace Sys2Proof.Machine

/-- The meaning of one event (40_host_access, 45_tick). -/
def exec (i : Instr) (s : State) : Host.Outcome State Fault Refusal :=
  match i with
  | .wrCtrl mute div2 shapeEn wlen => Sys2Proof.Machine.execWrCtrl mute div2 shapeEn wlen s
  | .rdCtrl => Sys2Proof.Machine.execRdCtrl s
  | .rdStatus => Sys2Proof.Machine.execRdStatus s
  | .wrPofs data => Sys2Proof.Machine.execWrPofs data s
  | .rdPofs => Sys2Proof.Machine.execRdPofs s
  | .wrVofs data => Sys2Proof.Machine.execWrVofs data s
  | .rdVofs => Sys2Proof.Machine.execRdVofs s
  | .wrFpitch data => Sys2Proof.Machine.execWrFpitch data s
  | .rdFpitch => Sys2Proof.Machine.execRdFpitch s
  | .wrFvol data => Sys2Proof.Machine.execWrFvol data s
  | .rdFvol => Sys2Proof.Machine.execRdFvol s
  | .wrPhase data => Sys2Proof.Machine.execWrPhase data s
  | .rdPhase => Sys2Proof.Machine.execRdPhase s
  | .wrAmp data => Sys2Proof.Machine.execWrAmp data s
  | .rdAmp => Sys2Proof.Machine.execRdAmp s
  | .rdPctl => Sys2Proof.Machine.execRdPctl s
  | .rdVctl => Sys2Proof.Machine.execRdVctl s
  | .rdCapp => Sys2Proof.Machine.execRdCapp s
  | .rdCapv => Sys2Proof.Machine.execRdCapv s
  | .rdSample => Sys2Proof.Machine.execRdSample s
  | .rdStep => Sys2Proof.Machine.execRdStep s
  | .wrRoStatus => Sys2Proof.Machine.execWrRoStatus s
  | .wrRoPctl => Sys2Proof.Machine.execWrRoPctl s
  | .wrRoVctl => Sys2Proof.Machine.execWrRoVctl s
  | .wrRoCapp => Sys2Proof.Machine.execWrRoCapp s
  | .wrRoCapv => Sys2Proof.Machine.execWrRoCapv s
  | .wrRoSample => Sys2Proof.Machine.execWrRoSample s
  | .wrRoStep => Sys2Proof.Machine.execWrRoStep s
  | .wrPtab idx data => Sys2Proof.Machine.execWrPtab idx data s
  | .rdPtab idx => Sys2Proof.Machine.execRdPtab idx s
  | .wrVtab idx data => Sys2Proof.Machine.execWrVtab idx data s
  | .rdVtab idx => Sys2Proof.Machine.execRdVtab idx s
  | .wrStab idx data => Sys2Proof.Machine.execWrStab idx data s
  | .rdStab idx => Sys2Proof.Machine.execRdStab idx s
  | .wrWtab idx data => Sys2Proof.Machine.execWrWtab idx data s
  | .rdWtab idx => Sys2Proof.Machine.execRdWtab idx s
  | .hnop => Sys2Proof.Machine.execHnop s
  | .hrsv => Sys2Proof.Machine.execHrsv s
  | .wrRsvd addr => Sys2Proof.Machine.execWrRsvd addr s
  | .rdRsvd addr => Sys2Proof.Machine.execRdRsvd addr s
  | .tick capP capV => Sys2Proof.Machine.execTick capP capV s
  | .reset => Sys2Proof.Machine.execReset s
  | .evrsv => Sys2Proof.Machine.execEvrsv s

end Sys2Proof.Machine
end

