-- ==== Sys2Proof/Machine/Step.lean ====
section
/-! DEFINITION. One step: the next event of the total order is taken off the port, decoded and performed whole
(20_memory R69). -/

namespace Sys2Proof.Machine

/-- One step of the machine: one event. -/
def step (s : State) : Host.Outcome State Fault Refusal := exec (decode (fetchEvent s)) s.popEvent

/-- The state in which the next step performs the instruction whose bits are `w`, numbered as spec/opcode_table.json
numbers them: an outside agent presents that event word next (log entry 1). -/
def State.withFetchWord (s : State) (nbits w : Nat) : State := s.pushEvent (eventOfNumber nbits w)

end Sys2Proof.Machine
end

