-- ==== Sys2Proof/Machine/Images.lean ====
section
/-! DEFINITION. What the host's table images contain, as far as 41_table_images says: predicates on the tables, never
behaviour of the block, which neither computes nor checks them (00_scope R5; log entry 11). -/

namespace Sys2Proof.Machine

/-- `x_i`, the control value entry `i` of a pitch or volume image stands for (41_table_images R151), an exact rational. -/
def imageInput (i : Nat) : Rat := 2 ^ (i / 64) * (1 + ((i % 64 : Nat) : Rat) / 64)

/-- The pitch table holds the image of 41_table_images R152, for the host's open parameters `SHIFT_CONST`, `pitch_shift`,
`pitch_scale`, `STEP_NORM` and `MAX_STEP`: a real power, rounded down, capped. -/
def PitchImage (m : Memory) (shiftConst pitchShift pitchScale stepNorm : Real) (maxStep : Nat) : Prop :=
  ∀ i : Nat, i < Config.ptabN →
    memRead m .ptab i =
      min (maxStep : Int) ⌊(((imageInput i : Rat) : Real) * shiftConst * pitchShift) ^ pitchScale * stepNorm⌋

/-- The volume table holds the image of 41_table_images R154, for the host's parameters `volume_shift` and `volume_scale`:
a clamped logarithm, squared, rounded to the nearest integer (a tie to the larger), clamped. -/
def VolumeImage (m : Memory) (volumeShift volumeScale : Real) : Prop :=
  ∀ i : Nat, i < Config.vtabN →
    memRead m .vtab i =
      max 0 (min 1023 ⌊(max 0 (min 1024 ((volumeShift - Real.logb 2 ((imageInput i : Rat) : Real)) * 300 * volumeScale))) ^ 2
        / 1024 + 1 / 2⌋)

/-- The identity shaping curve, `STAB[j] = 256·j − 32768` (41_table_images R161). -/
def identityCurve (j : Nat) : Int := 256 * (j : Int) - 32768

/-- The linear pitch image `PTAB[i] = 2^(i div 64)·(64 + i mod 64)` of 43_lookup R189. -/
def linearPitch (i : Nat) : Int := 2 ^ (i / 64) * (64 + ((i % 64 : Nat) : Int))

/-- Entry `k` of the imported waveform: the parsed samples times 16, clamped and tiled; zero where none was parsed
(41_table_images R160). -/
def importedSample (parsed : List Int) (k : Nat) : Int :=
  max (-32768) (min 32767 (16 * parsed.getD (k % parsed.length) 0))

end Sys2Proof.Machine
end

