-- ==== Sys2Proof/Machine/Ports.lean ====
section
/-! DEFINITION. The input ports of the block at one event boundary, and the order in which events presented together are
performed (30_encoding R94, 60_exceptions R252). -/

namespace Sys2Proof.Machine

/-- The input ports of 30_encoding R94 at one event boundary. -/
structure Boundary where
  /-- `rst`. -/
  rst : Bool
  /-- `tick`, a strobe. -/
  tick : Bool
  /-- `cap_p`. -/
  capP : Capture
  /-- `cap_v`. -/
  capV : Capture
  /-- `h_op`, 0 when the host is idle. -/
  hOp : BitVec 2
  /-- `h_addr`. -/
  hAddr : HostAddr
  /-- `h_wdata`. -/
  hWdata : Word
deriving DecidableEq, Repr

/-- The TICK of a boundary, if its strobe is set. -/
def Boundary.tickEvents (b : Boundary) : List EventWord := if b.tick then [tickWord b.capP b.capV] else []

/-- The host command of a boundary, if the host is not idle (40_host_access R111 lets an idle HNOP be dropped; log entry
8). -/
def Boundary.hostEvents (b : Boundary) : List EventWord :=
  if b.hOp = 0#2 then [] else [hostWord b.hOp b.hAddr b.hWdata]

/-- The events of one boundary in the order they are performed: RESET alone, discarding the others; else the TICK, then
the host command (60_exceptions R252, 20_memory R70). -/
def Boundary.events (b : Boundary) : List EventWord :=
  if b.rst then [resetWord] else b.tickEvents ++ b.hostEvents

/-- The state with one boundary's events presented, after those already pending. -/
def State.present (s : State) (b : Boundary) : State := { s with pending := s.pending ++ b.events }

end Sys2Proof.Machine
end

