-- ==== Sys2Proof/Machine/Trace.lean ====
section
/-! DEFINITION. The trace syntax and the pseudo-instructions (30_encoding R100, R101), as abstract syntax: a line and the
event word it stands for. The characters of a line are not modelled (log entry 11). -/

namespace Sys2Proof

/-- One line of a trace (30_encoding R100). -/
inductive TraceLine where
  | hnop
  | wrReg (r : RegName) (data : Word)
  | rdReg (r : RegName)
  | wrTab (t : TableName) (i : Nat) (data : Word)
  | rdTab (t : TableName) (i : Nat)
  | wrAt (addr : HostAddr) (data : Word)
  | rdAt (addr : HostAddr)
  | hrsv
  | tick (capP capV : Capture)
  | reset
deriving DecidableEq, Repr

namespace Machine

/-- The event word of a line (30_encoding R100); none where an index is not below its table's entry count. -/
def assemble : TraceLine → Option EventWord
  | .hnop => some (hostWord 0#2 0#14 0#32)
  | .wrReg r d => some (writeWord (regAddr r) d)
  | .rdReg r => some (readWord (regAddr r))
  | .wrTab t i d => if i < tableSize t then some (writeWord (entryAddr t i) d) else none
  | .rdTab t i => if i < tableSize t then some (readWord (entryAddr t i)) else none
  | .wrAt a d => some (writeWord a d)
  | .rdAt a => some (readWord a)
  | .hrsv => some (hostWord 3#2 0#14 0#32)
  | .tick p v => some (tickWord p v)
  | .reset => some resetWord

/-- The event words of a trace; none where a line has none. -/
def assembleAll : List TraceLine → Option (List EventWord)
  | [] => some []
  | l :: rest =>
    match assemble l, assembleAll rest with
    | some w, some ws => some (w :: ws)
    | _, _ => none

/-- `ctrl mute=<m> div2=<d> shape=<s> wlen=<w>` (30_encoding R101). -/
def pseudoCtrl (mute div2 shapeEn : Bool) (wlen : BitVec 2) : List TraceLine :=
  [.wrReg .ctrl (ctrlData mute div2 shapeEn wlen)]

/-- `filtrst` (30_encoding R101): two commands, not atomic. -/
def pseudoFiltrst : List TraceLine := [.wrReg .fpitch Config.sentinel, .wrReg .fvol Config.sentinel]

/-- `ticks n, p0, dp, v0, dv` (30_encoding R101): captures advance modulo 65536. -/
def pseudoTicks (n : Nat) (p0 dp v0 dv : Capture) : List TraceLine :=
  (List.range n).map fun k => .tick (p0 + BitVec.ofNat 16 k * dp) (v0 + BitVec.ofNat 16 k * dv)

/-- `fill <tab>, lo, hi, data` (30_encoding R101): entries lo .. hi in ascending order. -/
def pseudoFill (t : TableName) (lo hi : Nat) (data : Word) : List TraceLine :=
  (List.range' lo (hi + 1 - lo)).map fun i => .wrTab t i data

/-- `load <tab>, lo: d0, d1, …` (30_encoding R101): consecutive entries from lo. -/
def pseudoLoad (t : TableName) : Nat → List Word → List TraceLine
  | _, [] => []
  | lo, d :: rest => .wrTab t lo d :: pseudoLoad t (lo + 1) rest

end Machine

end Sys2Proof
end

