-- ==== Sys2Proof/Machine/Procedures.lean ====
section
/-! DEFINITION. The host's command sequences (46_host_procedures), as data. Nothing of them is behaviour of the block: it
performs whatever commands it is given (R230). -/

namespace Sys2Proof.Machine

/-- Initialisation after a RESET (46_host_procedures R231): one `WR.CTRL`, last, after the tables and offsets. Line 7,
`wr amp, 0`, is optional in R231: `clearAmp` says whether it is issued. R231 leaves the order of lines 1 to 7 free: the
order here, its listing's, is the MODEL's choice (DESIGN CHOICE, safe: log entry 11). -/
def procInit (ptab vtab wtab stab : List Word) (pofs vofs : Word) (clearAmp div2 shapeEn : Bool) (wlen : BitVec 2) :
    List TraceLine :=
  pseudoLoad .ptab 0 ptab ++ pseudoLoad .vtab 0 vtab ++ pseudoLoad .wtab 0 wtab ++
    (if shapeEn then pseudoLoad .stab 0 stab else []) ++
    [.wrReg .pofs pofs, .wrReg .vofs vofs] ++ (if clearAmp then [.wrReg .amp 0#32] else []) ++
    pseudoCtrl false div2 shapeEn wlen

/-- Pitch-table rebuild, unmuted (46_host_procedures R232). -/
def procPitchRebuild (ptab : List Word) : List TraceLine := pseudoLoad .ptab 0 ptab

/-- Volume-table rebuild, unmuted (46_host_procedures R232). -/
def procVolumeRebuild (vtab : List Word) : List TraceLine := pseudoLoad .vtab 0 vtab

/-- Waveform rebuild under mute (46_host_procedures R233); `m` is the mute state to leave. -/
def procWaveRebuild (m div2 shapeOld shapeNew : Bool) (wlenOld wlenNew : BitVec 2) (wtab stab : List Word) :
    List TraceLine :=
  pseudoCtrl true div2 shapeOld wlenOld ++ pseudoLoad .wtab 0 wtab ++
    (if shapeNew then pseudoLoad .stab 0 stab else []) ++ pseudoCtrl m div2 shapeNew wlenNew

/-- Calibration, Idle to Running (46_host_procedures R236): mute first, then both accumulators to the sentinel. -/
def procCalStart (div2 shapeEn : Bool) (wlen : BitVec 2) : List TraceLine :=
  pseudoCtrl true div2 shapeEn wlen ++ pseudoFiltrst

/-- Calibration, one low-rate tick while Running (46_host_procedures R237): the two reads of the running minimum. -/
def procCalSample : List TraceLine := [.rdReg .fpitch, .rdReg .fvol]

/-- Calibration, Running to Idle (46_host_procedures R238): commit the minimums, then unmute. -/
def procCalCommit (minP minV : Word) (div2 shapeEn : Bool) (wlen : BitVec 2) : List TraceLine :=
  [.wrReg .pofs minP, .wrReg .vofs minV] ++ pseudoCtrl false div2 shapeEn wlen

end Sys2Proof.Machine
end

