-- ==== Sys2Proof/Safety.lean ====
section
/-! DEFINITION. The terms the statements use: the invariant of 10_state R50, the block without its ports, and sequences of
events. -/

namespace Sys2Proof.Machine

/-- The invariants of 10_state R50 that the field widths do not already give, and the canonical form of the tables. They
hold in every state reachable from reset and are preconditions of every other rule (93_implementation_defined V9). -/
abbrev Inv (s : State) : Prop :=
  s.wlen ≠ 3#2 ∧ s.amp.toNat ≤ Config.ampMax ∧ 1 ≤ s.pctl.toNat ∧ 1 ≤ s.vctl.toNat ∧ s.mem.wf = true

/-- The block's own state (10_state R20): the model's port fields blanked. Two states with equal blocks are the same state
of the hardware. -/
def State.block (s : State) : State := { s with pending := [], resp := none, emitted := none }

/-- A TICK in this state is a render tick (45_tick R216). -/
abbrev RenderTick (s : State) : Prop := s.div2 = false ∨ s.divph = false

/-- Performing a sequence of events, each on the state the one before it left (20_memory R69). -/
def Performs : List Instr → State → State → Prop
  | [], s, u => u = s
  | i :: rest, s, u => ∃ t, exec i s = .next t ∧ Performs rest t u

/-- Every event of the sequence completes, and `P` holds of the state after each. -/
def EveryAlong (P : State → Prop) : List Instr → State → Prop
  | [], _ => True
  | i :: rest, s => ∃ t, exec i s = .next t ∧ P t ∧ EveryAlong P rest t

/-- The commands that answer the error response: the five causes of 60_exceptions R247. -/
def Rejected : Instr → Prop
  | .hrsv | .wrRoStatus | .wrRoPctl | .wrRoVctl | .wrRoCapp | .wrRoCapv | .wrRoSample | .wrRoStep => True
  | .wrRsvd _ | .rdRsvd _ => True
  | .wrCtrl _ _ _ wlen => wlen = 3#2
  | .rdCtrl | .rdStatus | .wrPofs _ | .rdPofs | .wrVofs _ | .rdVofs | .wrFpitch _ | .rdFpitch | .wrFvol _ | .rdFvol
  | .wrPhase _ | .rdPhase | .wrAmp _ | .rdAmp | .rdPctl | .rdVctl | .rdCapp | .rdCapv | .rdSample | .rdStep
  | .wrPtab _ _ | .rdPtab _ | .wrVtab _ _ | .rdVtab _ | .wrStab _ _ | .rdStab _ | .wrWtab _ _ | .rdWtab _
  | .hnop | .tick _ _ | .reset | .evrsv => False

/-- A write of a table entry (40_host_access section 7). -/
def WritesTable : Instr → Prop
  | .wrPtab _ _ | .wrVtab _ _ | .wrStab _ _ | .wrWtab _ _ => True
  | .wrCtrl _ _ _ _ | .rdCtrl | .rdStatus | .wrPofs _ | .rdPofs | .wrVofs _ | .rdVofs | .wrFpitch _ | .rdFpitch
  | .wrFvol _ | .rdFvol | .wrPhase _ | .rdPhase | .wrAmp _ | .rdAmp | .rdPctl | .rdVctl | .rdCapp | .rdCapv
  | .rdSample | .rdStep | .wrRoStatus | .wrRoPctl | .wrRoVctl | .wrRoCapp | .wrRoCapv | .wrRoSample | .wrRoStep
  | .rdPtab _ | .rdVtab _ | .rdStab _ | .rdWtab _ | .hnop | .hrsv | .wrRsvd _ | .rdRsvd _ | .tick _ _ | .reset
  | .evrsv => False

/-- The table writes among the events `is` are exactly the commands `ws`, in their order; any other events may fall before,
between and after them (20_memory R71: a host procedure is not atomic). -/
def TableWritesAre : List Instr → List Instr → Prop
  | [], ws => ws = []
  | i :: rest, ws =>
    (¬ WritesTable i ∧ TableWritesAre rest ws) ∨ (WritesTable i ∧ ∃ tail, ws = i :: tail ∧ TableWritesAre rest tail)

/-- A table whose contents never fall from one entry to a later one (41_table_images R152). -/
def NonDecreasing (m : Memory) (t : TableName) : Prop :=
  ∀ i j : Nat, i ≤ j → j < tableSize t → memRead m t i ≤ memRead m t j

/-- A table whose contents never rise from one entry to a later one (41_table_images R155). -/
def NonIncreasing (m : Memory) (t : TableName) : Prop :=
  ∀ i j : Nat, i ≤ j → j < tableSize t → memRead m t j ≤ memRead m t i

/-- `n` successive updates of an accumulator toward one target (42_period_filter R180). -/
def filterRepeat (p : Config.Params) (tgt : Int) : Nat → Word → Word
  | 0, f => f
  | n + 1, f => filterRepeat p tgt n (filterUpdate p f tgt)

end Sys2Proof.Machine
end

