-- ==== Sys2Proof/Certificates/Slice0/Obligations.lean ====
section
/-! DEFINITION. The statements about T32-WSC that the provers settle. Every one is about the machine, for every state or
every operand; those that rest on a choice of the model say so and name its log entry. -/

open Sys2Proof Sys2Proof.Machine

/-! ### Encoding -/

/-- 30_encoding R85 to R89, R96: the decoder gives back every operation, with every operand at every value its encoding
admits. -/
def Obligations.DecodeOfEncodeIsTheOperation : Prop :=
  ∀ i : Instr, i.wellFormed = true → decode (encode i) = i

/-- 30_encoding R96: an event word selects the first row it matches, every 50-bit value selects one, the rows above
`WR.RSVD` are pairwise disjoint, and there are 43 rows. -/
def Obligations.DecodeSelectsTheFirstMatchingRow : Prop :=
  (∀ w : EventWord, (firstRow w).map OpRow.mnemonic = some (mnemonicOf (decode w))) ∧
    (∀ (w : EventWord) (r q : OpRow), r ∈ registerRows ++ windowRows → q ∈ registerRows ++ windowRows →
      rowMatches w r = true → rowMatches w q = true → r = q) ∧
    opRows.length = 43

/-- 30_encoding R96, 40_host_access R146, R147: whatever is decoded is an operation; a rejected access to a reserved
address is decoded only from a reserved address. -/
def Obligations.DecodedOperationIsWellFormed : Prop :=
  ∀ w : EventWord, (decode w).wellFormed = true

/-- 30_encoding R98 (f) and (g), R88, R89: the bits the decoder ignores. -/
def Obligations.DontCareBitsAreIgnored : Prop :=
  ∀ w : EventWord,
    (portOf w = 0#2 → opOf w = 0#2 → decode w = .hnop) ∧
    (portOf w = 0#2 → opOf w = 3#2 → decode w = .hrsv) ∧
    (portOf w = 0#2 → opOf w = 2#2 → decode w = decode (readWord (addrOf w))) ∧
    (portOf w = 1#2 → decode w = .tick (w.extractLsb' 16 16) (w.extractLsb' 0 16)) ∧
    (portOf w = 2#2 → decode w = .reset) ∧
    (portOf w = 3#2 → decode w = .evrsv)

/-- 95_test_vectors section 2.1: words of the spec decode to the operations it names. -/
def Obligations.SpecEventWordsDecode : Prop :=
  decode 0x0400000000027#50 = .wrCtrl true true true 2#2 ∧
  decode 0x0800100000000#50 = .rdStatus ∧
  decode 0x04002FFFFFFFB#50 = .wrPofs 0xFFFFFFFB#32 ∧
  decode 0x04FFFFFFFFFFF#50 = .wrPtab 2047#11 0xFFFFFFFF#32 ∧
  decode 0x0900500000000#50 = .rdVtab 5#10 ∧
  decode 0x054FF00008000#50 = .wrStab 255#8 0x8000#32 ∧
  decode 0x0AFFF00000000#50 = .rdWtab 4095#12 ∧
  decode 0x0400100000000#50 = .wrRoStatus ∧
  decode 0x0550000000001#50 = .wrRsvd 0x1500#14 ∧
  decode 0x0BFFF00000000#50 = .rdRsvd 0x3FFF#14 ∧
  decode 0x10000083408FC#50 = .tick 2100#16 2300#16 ∧
  decode 0x2FFFFFFFFFFFF#50 = .reset ∧
  decode 0x3000000000000#50 = .evrsv

/-! ### Steps -/

/-- 20_memory R69: a step is one whole event: it performs the operation the next event word decodes to. That the events
still to come stand in `pending`, and that a step takes the head of it, is the MODEL's choice (log entry 1). -/
def Obligations.StepPerformsTheNextPendingEvent : Prop :=
  ∀ (s : State) (w : EventWord) (rest : List EventWord) (i : Instr),
    s.pending = w :: rest → decode w = i → step s = exec i { s with pending := rest }

/-- The MODEL's choice (log entry 2, from 30_encoding R94 and 40_host_access R111): with no event pending the port is
idle, and a step is an HNOP. -/
def Obligations.IdlePortStepIsAnHnop : Prop :=
  ∀ s : State, s.pending = [] →
    step s = .next { s with resp := some { err := false, rdata := 0#32 }, emitted := none }

/-- 60_exceptions R245: no event, in any state, leads to a state from which the block does not go on: any number of steps
from any state completes. -/
def Obligations.NoRunEverStops : Prop :=
  ∀ (n : Nat) (s : State), ∃ t : State, Host.Core.run Sys2Proof.core n s = .next t

/-- 60_exceptions R252: events presented at one boundary are performed RESET alone, else TICK, then the host command. (That
an idle host, `h_op` = 0, presents no command is the model's choice, log entry 8.) -/
def Obligations.BoundaryEventsAreOrdered : Prop :=
  ∀ (s : State) (b : Boundary), s.pending = [] →
    (b.rst = true → step (s.present b) = exec .reset s) ∧
    (b.rst = false → b.tick = true → b.hOp = 0#2 → step (s.present b) = exec (.tick b.capP b.capV) s) ∧
    (b.rst = false → b.tick = true → b.hOp ≠ 0#2 →
      ∃ t u : State, exec (.tick b.capP b.capV) s = .next t ∧
        step (s.present b) = .next u ∧ u = { t with pending := [hostWord b.hOp b.hAddr b.hWdata] } ∧
        step u = exec (decodeHost b.hOp b.hAddr b.hWdata) t) ∧
    (b.rst = false → b.tick = false → b.hOp ≠ 0#2 →
      step (s.present b) = exec (decodeHost b.hOp b.hAddr b.hWdata) s) ∧
    (b.rst = false → b.tick = false → b.hOp = 0#2 → s.present b = s)

/-! ### Host reads -/

/-- 40_host_access R113, R114 with 10_state R25, R26: `CTRL` and `STATUS` read bit by bit, every other bit 0, and nothing
else changes; `data` is ignored. -/
def Obligations.ControlWordsReadBitByBit : Prop :=
  (∀ x : Word, decode (hostWord 2#2 0x0000#14 x) = .rdCtrl ∧ decode (hostWord 2#2 0x0001#14 x) = .rdStatus) ∧
  ∀ s : State,
    (∃ v : Word,
      exec .rdCtrl s = .next { s with resp := some { err := false, rdata := v }, emitted := none } ∧
      ∀ k : Nat, v.getLsbD k =
        (if k = 0 then s.mute else if k = 1 then s.div2 else if k = 2 then s.shapeEn
         else if k = 4 then s.wlen.getLsbD 0 else if k = 5 then s.wlen.getLsbD 1 else false)) ∧
    (∃ v : Word,
      exec .rdStatus s = .next { s with resp := some { err := false, rdata := v }, emitted := none } ∧
      ∀ k : Nat, v.getLsbD k = (if k = 0 then s.mute else if k = 1 then s.divph else false))

/-- 40_host_access R116, R118, R120, R122, R124, R126 to R132: a register read answers the register, extended by its type
to 32 bits, and changes nothing else; `data` is ignored. -/
def Obligations.RegisterReadsAnswerTheRegister : Prop :=
  (∀ x : Word,
    decode (hostWord 2#2 0x0002#14 x) = .rdPofs ∧ decode (hostWord 2#2 0x0003#14 x) = .rdVofs ∧
    decode (hostWord 2#2 0x0004#14 x) = .rdFpitch ∧ decode (hostWord 2#2 0x0005#14 x) = .rdFvol ∧
    decode (hostWord 2#2 0x0006#14 x) = .rdPhase ∧ decode (hostWord 2#2 0x0007#14 x) = .rdAmp ∧
    decode (hostWord 2#2 0x0008#14 x) = .rdPctl ∧ decode (hostWord 2#2 0x0009#14 x) = .rdVctl ∧
    decode (hostWord 2#2 0x000A#14 x) = .rdCapp ∧ decode (hostWord 2#2 0x000B#14 x) = .rdCapv ∧
    decode (hostWord 2#2 0x000C#14 x) = .rdSample ∧ decode (hostWord 2#2 0x000D#14 x) = .rdStep) ∧
  ∀ s : State, ∃ amp vctl capp capv sample : Word,
    amp.toNat = s.amp.toNat ∧ vctl.toNat = s.vctl.toNat ∧ capp.toNat = s.capp.toNat ∧ capv.toNat = s.capv.toNat ∧
    sample.toInt = s.sample.toInt ∧
    exec .rdPofs s = .next { s with resp := some { err := false, rdata := s.pofs }, emitted := none } ∧
    exec .rdVofs s = .next { s with resp := some { err := false, rdata := s.vofs }, emitted := none } ∧
    exec .rdFpitch s = .next { s with resp := some { err := false, rdata := s.fpitch }, emitted := none } ∧
    exec .rdFvol s = .next { s with resp := some { err := false, rdata := s.fvol }, emitted := none } ∧
    exec .rdPhase s = .next { s with resp := some { err := false, rdata := s.phase }, emitted := none } ∧
    exec .rdAmp s = .next { s with resp := some { err := false, rdata := amp }, emitted := none } ∧
    exec .rdPctl s = .next { s with resp := some { err := false, rdata := s.pctl }, emitted := none } ∧
    exec .rdVctl s = .next { s with resp := some { err := false, rdata := vctl }, emitted := none } ∧
    exec .rdCapp s = .next { s with resp := some { err := false, rdata := capp }, emitted := none } ∧
    exec .rdCapv s = .next { s with resp := some { err := false, rdata := capv }, emitted := none } ∧
    exec .rdSample s = .next { s with resp := some { err := false, rdata := sample }, emitted := none } ∧
    exec .rdStep s = .next { s with resp := some { err := false, rdata := s.stepReg }, emitted := none }

/-- 40_host_access R134, R136, R138, R140 with 20_memory R64: a table read answers the entry, zero extended (`PTAB`,
`VTAB`) or sign extended (`STAB`, `WTAB`), and changes nothing else; `data` is ignored. -/
def Obligations.TableReadsAnswerTheEntry : Prop :=
  (∀ (x : Word) (a : BitVec 11) (b : BitVec 10) (c : BitVec 8) (d : BitVec 12),
    decode (hostWord 2#2 (0x0800#14 + a.setWidth 14) x) = .rdPtab a ∧
    decode (hostWord 2#2 (0x1000#14 + b.setWidth 14) x) = .rdVtab b ∧
    decode (hostWord 2#2 (0x1400#14 + c.setWidth 14) x) = .rdStab c ∧
    decode (hostWord 2#2 (0x2000#14 + d.setWidth 14) x) = .rdWtab d) ∧
  ∀ (s : State) (a : BitVec 11) (b : BitVec 10) (c : BitVec 8) (d : BitVec 12), ∃ p v t w : Word,
    (p.toNat : Int) = memRead s.mem .ptab a.toNat ∧ (v.toNat : Int) = memRead s.mem .vtab b.toNat ∧
    t.toInt = memRead s.mem .stab c.toNat ∧ w.toInt = memRead s.mem .wtab d.toNat ∧
    exec (.rdPtab a) s = .next { s with resp := some { err := false, rdata := p }, emitted := none } ∧
    exec (.rdVtab b) s = .next { s with resp := some { err := false, rdata := v }, emitted := none } ∧
    exec (.rdStab c) s = .next { s with resp := some { err := false, rdata := t }, emitted := none } ∧
    exec (.rdWtab d) s = .next { s with resp := some { err := false, rdata := w }, emitted := none }

/-! ### Host writes -/

/-- 40_host_access R115, R117, R119, R121, R125: every 32-bit pattern is stored as it is; no other component changes. -/
def Obligations.PlainRegisterWritesStoreTheData : Prop :=
  (∀ d : Word, decode (hostWord 1#2 0x0002#14 d) = .wrPofs d ∧ decode (hostWord 1#2 0x0003#14 d) = .wrVofs d ∧
    decode (hostWord 1#2 0x0004#14 d) = .wrFpitch d ∧ decode (hostWord 1#2 0x0005#14 d) = .wrFvol d ∧
    decode (hostWord 1#2 0x0006#14 d) = .wrPhase d) ∧
  ∀ (s : State) (d : Word),
    exec (.wrPofs d) s = .next { s with pofs := d, resp := some { err := false, rdata := 0#32 }, emitted := none } ∧
    exec (.wrVofs d) s = .next { s with vofs := d, resp := some { err := false, rdata := 0#32 }, emitted := none } ∧
    exec (.wrFpitch d) s = .next { s with fpitch := d, resp := some { err := false, rdata := 0#32 }, emitted := none } ∧
    exec (.wrFvol d) s = .next { s with fvol := d, resp := some { err := false, rdata := 0#32 }, emitted := none } ∧
    exec (.wrPhase d) s = .next { s with phase := d, resp := some { err := false, rdata := 0#32 }, emitted := none }

/-- 40_host_access R123: a write of `AMP` stores `min(data, 0x3FF00000)`, `data` read as u32; no other component
changes. -/
def Obligations.AmpWriteSaturates : Prop :=
  ∀ (s : State) (d : Word), decode (hostWord 1#2 0x0007#14 d) = .wrAmp d ∧ ∃ a : BitVec 30, a.toNat = min d.toNat 0x3FF00000 ∧
    exec (.wrAmp d) s = .next { s with amp := a, resp := some { err := false, rdata := 0#32 }, emitted := none }

/-- 40_host_access R112: a write of `CTRL` sets all four fields from `data`, or with `data[5:4]` = 3 nothing and answers
the error response; `data[3]` and `data[31:6]` are ignored, and no other component changes. -/
def Obligations.ControlWriteSetsAllFieldsOrNone : Prop :=
  (∀ (s : State) (d : Word), exec (decode (hostWord 1#2 0x0000#14 d)) s =
    if d.extractLsb' 4 2 = 3#2 then
      .next { s with resp := some { err := true, rdata := 0#32 }, emitted := none }
    else
      .next { s with mute := d.getLsbD 0, div2 := d.getLsbD 1, shapeEn := d.getLsbD 2, wlen := d.extractLsb' 4 2,
                     resp := some { err := false, rdata := 0#32 }, emitted := none }) ∧
  (∀ (s : State) (m v sh : Bool) (l : BitVec 2), l ≠ 3#2 → exec (.wrCtrl m v sh l) s =
    .next { s with mute := m, div2 := v, shapeEn := sh, wlen := l,
                   resp := some { err := false, rdata := 0#32 }, emitted := none }) ∧
  (∀ (s : State) (m v sh : Bool), exec (.wrCtrl m v sh 3#2) s =
    .next { s with resp := some { err := true, rdata := 0#32 }, emitted := none })

/-- 40_host_access R133, R135, R137, R139 with 20_memory R64: a table write stores the data brought into the entry's
range; every other entry of every table and every register keep their values. -/
def Obligations.TableWriteStoresSaturatedEntry : Prop :=
  (∀ (a : BitVec 11) (b : BitVec 10) (c : BitVec 8) (e : BitVec 12) (d : Word),
    decode (hostWord 1#2 (0x0800#14 + a.setWidth 14) d) = .wrPtab a d ∧
    decode (hostWord 1#2 (0x1000#14 + b.setWidth 14) d) = .wrVtab b d ∧
    decode (hostWord 1#2 (0x1400#14 + c.setWidth 14) d) = .wrStab c d ∧
    decode (hostWord 1#2 (0x2000#14 + e.setWidth 14) d) = .wrWtab e d) ∧
  ∀ (s : State) (a : BitVec 11) (b : BitVec 10) (c : BitVec 8) (e : BitVec 12) (d : Word),
    (∃ m : Memory,
      exec (.wrPtab a d) s = .next { s with mem := m, resp := some { err := false, rdata := 0#32 }, emitted := none } ∧
      memRead m .ptab a.toNat = d.toNat ∧
      ∀ (u : TableName) (j : Nat), (u ≠ .ptab ∨ j ≠ a.toNat) → memRead m u j = memRead s.mem u j) ∧
    (∃ m : Memory,
      exec (.wrVtab b d) s = .next { s with mem := m, resp := some { err := false, rdata := 0#32 }, emitted := none } ∧
      memRead m .vtab b.toNat = min (d.toNat : Int) 1023 ∧
      ∀ (u : TableName) (j : Nat), (u ≠ .vtab ∨ j ≠ b.toNat) → memRead m u j = memRead s.mem u j) ∧
    (∃ m : Memory,
      exec (.wrStab c d) s = .next { s with mem := m, resp := some { err := false, rdata := 0#32 }, emitted := none } ∧
      memRead m .stab c.toNat = max (-32768) (min d.toInt 32767) ∧
      ∀ (u : TableName) (j : Nat), (u ≠ .stab ∨ j ≠ c.toNat) → memRead m u j = memRead s.mem u j) ∧
    (∃ m : Memory,
      exec (.wrWtab e d) s = .next { s with mem := m, resp := some { err := false, rdata := 0#32 }, emitted := none } ∧
      memRead m .wtab e.toNat = max (-32768) (min d.toInt 32767) ∧
      ∀ (u : TableName) (j : Nat), (u ≠ .wtab ∨ j ≠ e.toNat) → memRead m u j = memRead s.mem u j)

/-- 95_test_vectors section 1, property 6, at the block: writing the same value to the same entry twice leaves the same
state as writing it once. -/
def Obligations.RepeatedTableWriteChangesNothing : Prop :=
  ∀ (s t : State) (i : Instr), WritesTable i → exec i s = .next t → exec i t = .next t

/-! ### Commands that change nothing -/

/-- 40_host_access R111: an HNOP answers `(0, 0)`, and dropping it changes no other outcome. 30_encoding R97: EVRSV
changes no state, produces no sample and no host response (that it is no refusal is the MODEL's choice, log entry 5), so
that it changes no later outcome either. -/
def Obligations.IdleEventsOnlyTouchThePorts : Prop :=
  ∀ s : State,
    (∃ t : State, exec .hnop s = .next t ∧
      t = { s with resp := some { err := false, rdata := 0#32 }, emitted := none } ∧ ∀ i : Instr, exec i t = exec i s) ∧
    (∃ t : State, exec .evrsv s = .next t ∧
      t = { s with resp := none, emitted := none } ∧ ∀ i : Instr, exec i t = exec i s)

/-- 40_host_access R141, R145 to R147: a rejected command answers `(1, 0)` and changes nothing else: `op` = 3, a
write of a read-only register, a write or a read of a reserved address. -/
def Obligations.RejectedCommandsOnlyAnswerError : Prop :=
  (∀ (a : HostAddr) (d : Word), decode (hostWord 3#2 a d) = .hrsv ∧
    (reservedAddr a = true → decode (hostWord 1#2 a d) = .wrRsvd a ∧ decode (hostWord 2#2 a d) = .rdRsvd a) ∧
    decode (hostWord 1#2 0x0001#14 d) = .wrRoStatus ∧ decode (hostWord 1#2 0x0008#14 d) = .wrRoPctl ∧
    decode (hostWord 1#2 0x0009#14 d) = .wrRoVctl ∧ decode (hostWord 1#2 0x000A#14 d) = .wrRoCapp ∧
    decode (hostWord 1#2 0x000B#14 d) = .wrRoCapv ∧ decode (hostWord 1#2 0x000C#14 d) = .wrRoSample ∧
    decode (hostWord 1#2 0x000D#14 d) = .wrRoStep) ∧
  ∀ (s : State) (a : HostAddr) (i : Instr),
    i ∈ [Instr.hrsv, .wrRoStatus, .wrRoPctl, .wrRoVctl, .wrRoCapp, .wrRoCapv, .wrRoSample, .wrRoStep,
      .wrRsvd a, .rdRsvd a] →
    exec i s = .next { s with resp := some { err := true, rdata := 0#32 }, emitted := none }

/-- 60_exceptions R247: `err` is 1 for exactly the five causes and for no other operation; there is no cause code, `rdata`
is 0 with it; the failing command changes no state at all, and no later event behaves differently for it. -/
def Obligations.ErrorResponseIsExactlyTheFiveCauses : Prop :=
  ∀ (s : State) (i : Instr), ∃ t : State, exec i s = .next t ∧
    ((∃ v : Word, t.resp = some { err := true, rdata := v }) ↔ Rejected i) ∧
    (∀ v : Word, t.resp = some { err := true, rdata := v } →
      v = 0#32 ∧ t.block = s.block ∧ ∀ j : Instr, exec j t = exec j s)

/-- 40_host_access R110: every host command gives a response and no sample, keeps `DIVPH`, `STEP`, `PCTL`, `VCTL`, `CAPP`,
`CAPV` and `SAMPLE`, and with `err` = 1 changes no state at all. -/
def Obligations.HostCommandKeepsTickEngineRegisters : Prop :=
  ∀ (s : State) (w : EventWord), portOf w = 0#2 → ∃ (t : State) (r : Response), exec (decode w) s = .next t ∧
    t.resp = some r ∧ t.emitted = none ∧ t.divph = s.divph ∧ t.stepReg = s.stepReg ∧ t.pctl = s.pctl ∧
    t.vctl = s.vctl ∧ t.capp = s.capp ∧ t.capv = s.capv ∧ t.sample = s.sample ∧
    (r.err = true → t.block = s.block)

/-- 20_memory R65: no host read has a side effect, and reading again answers the same. -/
def Obligations.HostReadsHaveNoSideEffect : Prop :=
  ∀ (s : State) (w : EventWord), portOf w = 0#2 → opOf w = 2#2 → ∃ t : State, exec (decode w) s = .next t ∧
    t.block = s.block ∧ exec (decode w) t = .next t

/-- 46_host_procedures R241: an offset written reads back as it was written, whatever events fall between, if none is a
RESET or another write of that offset. -/
def Obligations.OffsetRoundTripThroughAnyEvents : Prop :=
  ∀ (s : State) (v : Word) (is : List Instr), (∀ i ∈ is, i ≠ .reset) →
    ((∀ i ∈ is, ∀ d : Word, i ≠ .wrPofs d) → ∃ t u : State, Performs (.wrPofs v :: is) s t ∧
      exec .rdPofs t = .next u ∧ u.resp = some { err := false, rdata := v }) ∧
    ((∀ i ∈ is, ∀ d : Word, i ≠ .wrVofs d) → ∃ t u : State, Performs (.wrVofs v :: is) s t ∧
      exec .rdVofs t = .next u ∧ u.resp = some { err := false, rdata := v })

/-- 30_encoding R101, 20_memory R71: `load <tab>, lo: …` stores each data word, brought into its entry's range, at
consecutive entries from `lo`, and leaves every other entry of every table as it was, whatever events that write no table
fall before, between and after its commands: TICKs, other host commands, RESETs. -/
def Obligations.LoadStoresConsecutiveEntries : Prop :=
  ∀ (t : TableName) (lo : Nat) (ds : List Word), lo + ds.length ≤ tableSize t →
    ∃ ws : List EventWord, assembleAll (pseudoLoad t lo ds) = some ws ∧
      TableWritesAre (ws.map decode) (ws.map decode) ∧
      ∀ (s : State) (is : List Instr), TableWritesAre is (ws.map decode) → ∃ u : State, Performs is s u ∧
        (∀ (k : Nat) (d : Word), ds[k]? = some d → memRead u.mem t (lo + k) =
          (match t with
           | .ptab => (d.toNat : Int)
           | .vtab => min (d.toNat : Int) 1023
           | .stab | .wtab => max (-32768) (min d.toInt 32767))) ∧
        (∀ (x : TableName) (j : Nat), (x ≠ t ∨ j < lo ∨ lo + ds.length ≤ j) → memRead u.mem x j = memRead s.mem x j)

/-! ### The period filter -/

/-- 42_period_filter R179, for every legal parameter record: the previous capture is replaced, a zero period keeps the
accumulator, and otherwise the accumulator is the exact integer of the rule: no narrowing loses anything. -/
def Obligations.FilterStepIsExact : Prop :=
  ∀ (p : Config.Params) (f : Word) (last cap : Capture) (per : Nat), p.Legal →
    per = (cap.toNat + 65536 - last.toNat) % 65536 →
    (filterStep p f last cap).2 = cap ∧
    (per = 0 → (filterStep p f last cap).1 = f) ∧
    (per ≠ 0 → (filterStep p f last cap).1.toInt = f.toInt +
      Int.tdiv (max (-2 ^ 31) (min ((((if per < p.perThresh then 2 * per else per : Nat) : Int) - p.perCenter) *
        2 ^ p.perScaleShift) (2 ^ 31 - 1)) - f.toInt) (2 ^ p.filtShift))

/-- 42_period_filter R175: an update of an accumulator lies between the old value and the target, inclusive. -/
def Obligations.FilterUpdateStaysBetween : Prop :=
  ∀ (p : Config.Params) (f : Word) (tgt : Int), p.Legal → -2 ^ 31 ≤ tgt → tgt ≤ 2 ^ 31 - 1 →
    min f.toInt tgt ≤ (filterUpdate p f tgt).toInt ∧ (filterUpdate p f tgt).toInt ≤ max f.toInt tgt

/-- 42_period_filter R180: toward a constant target the accumulator stops after finitely many updates, within
2^FILT_SHIFT − 1 of the target, from any starting value; from far enough below it stops at exactly that distance below,
from far enough above at exactly that distance above. -/
def Obligations.FilterConvergesAndStalls : Prop :=
  ∀ (p : Config.Params) (f : Word) (tgt : Int), p.Legal → -2 ^ 31 ≤ tgt → tgt ≤ 2 ^ 31 - 1 →
    ∃ n : Nat, (∀ k : Nat, n ≤ k → filterRepeat p tgt k f = filterRepeat p tgt n f) ∧
      |tgt - (filterRepeat p tgt n f).toInt| ≤ 2 ^ p.filtShift - 1 ∧
      (2 ^ p.filtShift - 1 ≤ tgt - f.toInt → (filterRepeat p tgt n f).toInt = tgt - (2 ^ p.filtShift - 1)) ∧
      (2 ^ p.filtShift - 1 ≤ f.toInt - tgt → (filterRepeat p tgt n f).toInt = tgt + (2 ^ p.filtShift - 1))

/-- 42_period_filter R172: a channel whose capture never changes keeps its accumulator, whatever else happens, until the
host writes it or a RESET comes. -/
def Obligations.ConstantCaptureKeepsTheAccumulator : Prop :=
  ∀ (is : List Instr) (s : State), (∀ i ∈ is, i ≠ .reset) →
    ((∀ i ∈ is, (∀ d : Word, i ≠ .wrFpitch d) ∧ ∀ p v : Capture, i = .tick p v → p = s.capp) →
      EveryAlong (fun t => t.fpitch = s.fpitch ∧ t.capp = s.capp) is s) ∧
    ((∀ i ∈ is, (∀ d : Word, i ≠ .wrFvol d) ∧ ∀ p v : Capture, i = .tick p v → v = s.capv) →
      EveryAlong (fun t => t.fvol = s.fvol ∧ t.capv = s.capv) is s)

/-! ### TICK -/

/-- 45_tick R215 lines 10 to 14, R217, R218: on every TICK, muted or not, rendered or not, both channels filter their
captures, the control values are latched from the new accumulators, and the divider phase moves; `CTRL`, the offsets and
the tables keep their values, and there is no host response. The factor 1 (`PITCH_MUL`), the divisor 1024
(`VOL_NORM_SHIFT` = 10) and the filter's parameters are the defaults, the MODEL's choice (log entry 9). -/
def Obligations.TickFiltersAndLatchesControls : Prop :=
  ∀ (s : State) (p v : Capture), ∃ t : State, exec (.tick p v) s = .next t ∧
    (t.fpitch, t.capp) = filterStep Config.params s.fpitch s.capp p ∧
    (t.fvol, t.capv) = filterStep Config.params s.fvol s.capv v ∧
    (t.pctl.toNat : Int) = max 1 (min (t.fpitch.toInt - s.pofs.toInt) (2 ^ 32 - 1)) ∧
    (t.vctl.toNat : Int) = max 1 (min (Int.tdiv (t.fvol.toInt - s.vofs.toInt) 1024) 65535) ∧
    t.divph = (s.div2 && !s.divph) ∧
    t.mute = s.mute ∧ t.div2 = s.div2 ∧ t.shapeEn = s.shapeEn ∧ t.wlen = s.wlen ∧
    t.pofs = s.pofs ∧ t.vofs = s.vofs ∧ t.mem = s.mem ∧ t.pending = s.pending ∧ t.resp = none

/-- 45_tick R215 lines 1 to 9 with 43_lookup R189 to R191 and 44_synthesis R201 to R211: a render tick that is not muted,
written out in integers: the step, the phase, the amplitude, the interpolated waveform value `w`, the scaled sample `y`,
and the shaped sample, `u` = `y` + 32768. The clamp of R211 line 11 never acts and is left out. The division by 1024 is
`AMP_SHIFT` = 10, the parameters' defaults (the MODEL's choice, log entry 9). -/
def Obligations.UnmutedRenderTickSynthesises : Prop :=
  ∀ (s : State) (p v : Capture), s.mute = false → RenderTick s → ∃ t : State, exec (.tick p v) s = .next t ∧
    (t.stepReg.toNat : Int) =
      interp s.mem .ptab (keyIdx (key s.pctl.toNat)) (keyFrac (key s.pctl.toNat)) 17 / 2 ^ 17 ∧
    t.phase.toNat = (s.phase.toNat + t.stepReg.toNat) % 2 ^ 32 ∧
    (t.amp.toNat : Int) = s.amp.toNat + Int.tdiv
      (interp s.mem .vtab (keyIdx (key s.vctl.toNat)) (keyFrac (key s.vctl.toNat)) 17 * 8 - s.amp.toNat) 1024 ∧
    (∃ (i0 i1 frac u : Nat) (w y : Int),
      i0 = t.phase.toNat / 2 ^ 20 % (1024 * 2 ^ s.wlen.toNat) ∧
      i1 = (t.phase.toNat / 2 ^ 20 + 1) % (1024 * 2 ^ s.wlen.toNat) ∧
      frac = t.phase.toNat % 2 ^ 20 ∧
      w = memRead s.mem .wtab i0 * 2 ^ 20 + (memRead s.mem .wtab i1 - memRead s.mem .wtab i0) * frac ∧
      y = Int.tdiv (w * t.amp.toNat) (2 ^ 50) ∧
      (u : Int) = y + 32768 ∧ u < 65536 ∧
      t.sample.toInt =
        (if s.shapeEn = true then
          Int.tdiv (memRead s.mem .stab (u / 256) * 256 +
            (memRead s.mem .stab (min (u / 256 + 1) 255) - memRead s.mem .stab (u / 256)) * ((u % 256 : Nat) : Int)) 256
         else y)) ∧
    t.emitted = some t.sample

/-- 45_tick R216, 44_synthesis R210: on a muted render tick the amplitude still follows the volume channel, `STEP` and
`PHASE` keep their values, and the delivered sample is 0. The division by 1024 is `AMP_SHIFT` = 10, the default, the
MODEL's choice (log entry 9). -/
def Obligations.MutedRenderTickDeliversZero : Prop :=
  ∀ (s : State) (p v : Capture), s.mute = true → RenderTick s → ∃ t : State, exec (.tick p v) s = .next t ∧
    t.stepReg = s.stepReg ∧ t.phase = s.phase ∧
    (t.amp.toNat : Int) = s.amp.toNat + Int.tdiv
      (interp s.mem .vtab (keyIdx (key s.vctl.toNat)) (keyFrac (key s.vctl.toNat)) 17 * 8 - s.amp.toNat) 1024 ∧
    t.sample = 0#16 ∧ t.emitted = some 0#16

/-- 45_tick R216: on a tick that is not a render tick part S is skipped whole. -/
def Obligations.NonRenderTickSkipsSynthesis : Prop :=
  ∀ (s : State) (p v : Capture), s.div2 = true → s.divph = true → ∃ t : State, exec (.tick p v) s = .next t ∧
    t.stepReg = s.stepReg ∧ t.phase = s.phase ∧ t.amp = s.amp ∧ t.sample = s.sample ∧ t.emitted = none

/-- 30_encoding R95: a sample is delivered exactly by a TICK that is a render tick; it is the new `SAMPLE`; and no event
that delivers none changes `SAMPLE`, but for RESET. -/
def Obligations.SampleExactlyOnRenderTicks : Prop :=
  ∀ (s : State) (i : Instr), ∃ t : State, exec i s = .next t ∧
    (t.emitted.isSome = true ↔ (∃ p v : Capture, i = .tick p v) ∧ RenderTick s) ∧
    (∀ x : Sample, t.emitted = some x → t.sample = x ∧ -32768 ≤ x.toInt ∧ x.toInt ≤ 32767) ∧
    (t.emitted = none → i ≠ .reset → t.sample = s.sample)

/-- 45_tick R217: with `DIV2` = 1 render ticks and non-render ticks alternate strictly; with `DIV2` = 0 every TICK renders
and sets `DIVPH` to 0. -/
def Obligations.DividerAlternatesRenderTicks : Prop :=
  ∀ (s : State) (p v q x : Capture), ∃ t u : State, exec (.tick p v) s = .next t ∧ exec (.tick q x) t = .next u ∧
    (s.div2 = true → t.divph = !s.divph ∧ u.divph = s.divph ∧ t.emitted.isSome = !s.divph ∧
      u.emitted.isSome = s.divph) ∧
    (s.div2 = false → t.divph = false ∧ u.divph = false ∧ t.emitted.isSome = true ∧ u.emitted.isSome = true)

/-- 45_tick R219 (a): what a TICK delivers and leaves in the synthesis registers does not depend on its own captures. -/
def Obligations.OutputIndependentOfOwnCaptures : Prop :=
  ∀ (s : State) (p v q x : Capture), ∃ t u : State, exec (.tick p v) s = .next t ∧ exec (.tick q x) s = .next u ∧
    t.emitted = u.emitted ∧ t.sample = u.sample ∧ t.stepReg = u.stepReg ∧ t.phase = u.phase ∧ t.amp = u.amp ∧
    t.divph = u.divph

/-- 45_tick R219 (b): a host write of an offset or an accumulator just before a TICK does not change what that TICK
delivers, nor the synthesis registers it leaves. -/
def Obligations.OffsetWriteMissesTheNextSample : Prop :=
  ∀ (s : State) (d : Word) (p v : Capture) (i : Instr), i ∈ [Instr.wrPofs d, .wrVofs d, .wrFpitch d, .wrFvol d] →
    ∃ r t u : State, exec i s = .next r ∧ exec (.tick p v) r = .next t ∧ exec (.tick p v) s = .next u ∧
      t.emitted = u.emitted ∧ t.sample = u.sample ∧ t.stepReg = u.stepReg ∧ t.phase = u.phase ∧ t.amp = u.amp

/-- 46_host_procedures R240, 45_tick R216: from a muted state, as long as no write of `CTRL` clears `MUTE`, every
delivered sample is 0, whatever events come (a RESET mutes too). -/
def Obligations.MutedRunDeliversOnlySilence : Prop :=
  ∀ (is : List Instr) (s : State), s.mute = true →
    (∀ i ∈ is, ∀ (v sh : Bool) (l : BitVec 2), i ≠ .wrCtrl false v sh l) →
    EveryAlong (fun t => t.mute = true ∧ (t.emitted = none ∨ t.emitted = some 0#16)) is s

/-- 46_host_procedures R239: with the sentinel committed as an offset every TICK latches the control value 1 (with the
parameters' defaults, the MODEL's choice, log entry 9). -/
def Obligations.DegenerateCalibrationPinsTheControls : Prop :=
  ∀ (s : State) (p v : Capture), ∃ t : State, exec (.tick p v) s = .next t ∧
    (s.pofs = Config.sentinel → t.pctl = 1#32) ∧ (s.vofs = Config.sentinel → t.vctl = 1#16)

/-! ### Whole-machine rules -/

/-- 10_state R44: no event but a table write changes a table. -/
def Obligations.OnlyTableWritesChangeTables : Prop :=
  ∀ (s : State) (i : Instr), ¬ WritesTable i → ∃ t : State, exec i s = .next t ∧ t.mem = s.mem

/-- 10_state R20, column "written by": each register is changed only by the events that may write it. -/
def Obligations.RegistersChangeOnlyByTheirWriters : Prop :=
  ∀ (s : State) (i : Instr), i ≠ .reset → ∃ t : State, exec i s = .next t ∧
    ((∀ (m v sh : Bool) (l : BitVec 2), i ≠ .wrCtrl m v sh l) →
      t.mute = s.mute ∧ t.div2 = s.div2 ∧ t.shapeEn = s.shapeEn ∧ t.wlen = s.wlen) ∧
    ((∀ d : Word, i ≠ .wrPofs d) → t.pofs = s.pofs) ∧
    ((∀ d : Word, i ≠ .wrVofs d) → t.vofs = s.vofs) ∧
    ((∀ p v : Capture, i ≠ .tick p v) →
      t.divph = s.divph ∧ t.stepReg = s.stepReg ∧ t.pctl = s.pctl ∧ t.vctl = s.vctl ∧ t.capp = s.capp ∧
      t.capv = s.capv ∧ t.sample = s.sample ∧
      ((∀ d : Word, i ≠ .wrFpitch d) → t.fpitch = s.fpitch) ∧
      ((∀ d : Word, i ≠ .wrFvol d) → t.fvol = s.fvol) ∧
      ((∀ d : Word, i ≠ .wrPhase d) → t.phase = s.phase) ∧
      ((∀ d : Word, i ≠ .wrAmp d) → t.amp = s.amp))

/-- 10_state R47, 20_memory R69: the fields the model keeps for the ports are no state of the block. No event reads the
last response or the last sample port, and the events still to come change nothing of what an event does (log entries 1
and 3). -/
def Obligations.PortFieldsAreNeverRead : Prop :=
  ∀ (s : State) (i : Instr) (r : Option Response) (e : Option Sample) (ws : List EventWord),
    exec i { s with resp := r, emitted := e } = exec i s ∧
    ∃ t : State, exec i s = .next t ∧ exec i { s with pending := ws } = .next { t with pending := ws }

/-! ### RESET and invariants -/

/-- 45_tick R222, 10_state R49: RESET sets every register to its reset value, keeps the tables, delivers no sample, gives
no response, and is idempotent. -/
def Obligations.ResetEventSetsEveryRegister : Prop :=
  ∀ s : State, ∃ t : State, exec .reset s = .next t ∧
    t = { mute := true, div2 := false, shapeEn := false, wlen := 0#2, divph := false, pofs := 0#32, vofs := 0#32,
          fpitch := 0#32, fvol := 0#32, phase := 0#32, amp := 0#30, stepReg := 0#32, pctl := 1#32, vctl := 1#16,
          capp := 0#16, capv := 0#16, sample := 0#16, mem := s.mem, pending := s.pending, resp := none,
          emitted := none } ∧
    exec .reset t = .next t ∧ ∀ w : EventWord, portOf w = 2#2 → decode w = .reset

/-- 70_reset_and_hazards R267: the first TICK after a RESET is a muted render tick: sample 0, `PHASE` and `STEP` at 0,
`AMP` at `VTAB[0]`·1024, the filter run with previous captures 0, the control values latched. The parameters are the defaults, the MODEL's choice
(log entry 9). -/
def Obligations.FirstTickAfterReset : Prop :=
  ∀ (s : State) (p v : Capture), ∃ r t : State, exec .reset s = .next r ∧ exec (.tick p v) r = .next t ∧
    t.emitted = some 0#16 ∧ t.sample = 0#16 ∧ t.phase = 0#32 ∧ t.stepReg = 0#32 ∧
    (t.amp.toNat : Int) = memRead s.mem .vtab 0 * 1024 ∧
    t.fpitch = (filterStep Config.params 0#32 0#16 p).1 ∧ t.fvol = (filterStep Config.params 0#32 0#16 v).1 ∧
    t.capp = p ∧ t.capv = v ∧
    t.pctl = pitchControl Config.params t.fpitch 0#32 ∧ t.vctl = volControl Config.params t.fvol 0#32

/-- 10_state R50: `WLEN` legal, `AMP` at most `AMP_MAX`, `PCTL` and `VCTL` at least 1, right after reset. That the tables
are in canonical form besides is the MODEL's (log entry 6) and no part of R50. -/
def Obligations.ResetStateSatisfiesTheInvariant : Prop := Inv State.reset

/-- 10_state R50: every step keeps `WLEN` legal, `AMP` at most `AMP_MAX`, `PCTL` and `VCTL` at least 1. The clause that the
tables stay in canonical form is the MODEL's (log entry 6) and no part of R50. -/
def Obligations.EveryStepKeepsTheInvariant : Prop :=
  ∀ s t : State, Inv s → step s = .next t → Inv t

/-- 10_state R50: while `SHAPE_EN` has always been 0, `SAMPLE` stays within 32736 in magnitude. (The premise `Inv` holds
the canonical form of the tables besides R50, the MODEL's: log entry 6.) -/
def Obligations.UnshapedSampleStaysWithin32736 : Prop :=
  ∀ s t : State, Inv s → s.shapeEn = false → |s.sample.toInt| ≤ 32736 → step s = .next t →
    t.shapeEn = false → |t.sample.toInt| ≤ 32736

/-! ### Lookup and synthesis -/

/-- 44_synthesis R212: `SynthSample()` is in −32768 .. 32767 in every state, and with `SHAPE_EN` = 0 and `AMP` in range
within 32736 in magnitude. -/
def Obligations.SynthSampleIsInRange : Prop :=
  ∀ s : State, -32768 ≤ synthSample s ∧ synthSample s ≤ 32767 ∧
    (s.amp.toNat ≤ Config.ampMax → s.shapeEn = false → |synthSample s| ≤ 32736)

/-- 44_synthesis R208: with `AMP` in range the final clamp never acts, shaped or not. -/
def Obligations.FinalClampNeverActs : Prop :=
  ∀ s : State, s.amp.toNat ≤ Config.ampMax → s.mute = false → synthSample s = renderedSample s

/-- 43_lookup R185: `Key` is non-decreasing, a 28-bit value, `Key(2^e) = e · 2^23`, and `Key(2^32 − 1) = 0xFFFFFFF`. -/
def Obligations.KeyIsMonotoneAndExactAtPowers : Prop :=
  (∀ v w : Nat, 1 ≤ v → v ≤ w → w < 2 ^ 32 → key v ≤ key w ∧ key w < 2 ^ 28) ∧
    (∀ e : Nat, e ≤ 31 → key (2 ^ e) = e * 2 ^ 23) ∧ key (2 ^ 32 - 1) = 0xFFFFFFF

/-- 43_lookup R188: a volume control value has an exponent of at most 15 and an index of at most 1023, so its lookup needs
no clamp of the index. -/
def Obligations.VolumeIndexStaysInTheTable : Prop :=
  ∀ v : Nat, 1 ≤ v → v ≤ 65535 → lg v ≤ 15 ∧ keyIdx (key v) ≤ 1023

/-- 41_table_images R151: entry `i` stands for the control value 2^(i div 64)·(1 + (i mod 64)/64): that value's key is
exactly `i` with fraction 0. -/
def Obligations.KeyOfRepresentativeValue : Prop :=
  ∀ i v : Nat, i < 2048 → v * 64 = 2 ^ (i / 64) * (64 + i % 64) →
    key v = i * 2 ^ 17 ∧ keyIdx (key v) = i ∧ keyFrac (key v) = 0

/-- 43_lookup R187: an interpolated value lies between the two entries, inclusive of the lower neighbour and, where they
differ, exclusive of the upper; at the last entry it is the entry, whatever the fraction. -/
def Obligations.InterpolationStaysBetweenNeighbours : Prop :=
  ∀ (m : Memory) (t : TableName) (idx frac fb : Nat) (a b : Int), idx < tableSize t → frac < 2 ^ fb →
    a = memRead m t idx → b = memRead m t (min (idx + 1) (tableSize t - 1)) →
    min a b * 2 ^ fb ≤ interp m t idx frac fb ∧ interp m t idx frac fb ≤ max a b * 2 ^ fb ∧
    (a ≠ b → interp m t idx frac fb ≠ b * 2 ^ fb) ∧
    (idx + 1 = tableSize t → interp m t idx frac fb = a * 2 ^ fb)

/-- 43_lookup R192: with a non-decreasing pitch image the step is non-decreasing in `PCTL`; with a non-increasing volume
image the amplitude target is non-increasing in `VCTL`. -/
def Obligations.LookupsAreMonotoneInTheControlValue : Prop :=
  (∀ (m : Memory) (v w : Word), NonDecreasing m .ptab → 1 ≤ v.toNat → v.toNat ≤ w.toNat →
      (pitchStep m v).toNat ≤ (pitchStep m w).toNat) ∧
    (∀ (m : Memory) (v w : BitVec 16), NonIncreasing m .vtab → 1 ≤ v.toNat → v.toNat ≤ w.toNat →
      ampTarget m w ≤ ampTarget m v)

/-- 43_lookup R189, R193: with the linear pitch image the step is exactly 64 times the control value, for every control
value below 2^24. -/
def Obligations.LinearImageGivesProportionalStep : Prop :=
  ∀ (m : Memory) (v : Word), (∀ i : Nat, i ≤ 1536 → memRead m .ptab i = linearPitch i) →
    1 ≤ v.toNat → v.toNat < 2 ^ 24 → (pitchStep m v).toNat = 64 * v.toNat

/-- 43_lookup R191, for every legal parameter record: the smoothed amplitude is exact, lies between the old value and the
target, so `AMP` ≤ `AMP_MAX` is kept, and stays put exactly when the target is closer than 2^AMP_SHIFT. -/
def Obligations.AmpSmootherStaysBetween : Prop :=
  ∀ (p : Config.Params) (amp : BitVec 30) (tgt : Int), p.Legal → amp.toNat ≤ Config.ampMax → 0 ≤ tgt →
    tgt ≤ Config.ampMax →
    ((smoothAmp p amp tgt).toNat : Int) = amp.toNat + Int.tdiv (tgt - amp.toNat) (2 ^ p.ampShift) ∧
    min (amp.toNat : Int) tgt ≤ (smoothAmp p amp tgt).toNat ∧
    ((smoothAmp p amp tgt).toNat : Int) ≤ max (amp.toNat : Int) tgt ∧
    (smoothAmp p amp tgt = amp ↔ |tgt - amp.toNat| < 2 ^ p.ampShift)

/-- 44_synthesis R203: both waveform indices are the table position, and its successor, modulo the length, so they are
always below it. -/
def Obligations.WaveIndicesWrapInsideTheTable : Prop :=
  ∀ (l : BitVec 2) (phase : Word), l ≠ 3#2 →
    waveIdx0 l phase = phase.toNat / 2 ^ 20 % (1024 * 2 ^ l.toNat) ∧
    waveIdx1 l phase = (phase.toNat / 2 ^ 20 + 1) % (1024 * 2 ^ l.toNat) ∧
    waveIdx0 l phase < 1024 * 2 ^ l.toNat ∧ waveIdx1 l phase < 1024 * 2 ^ l.toNat ∧
    1024 * 2 ^ l.toNat ≤ tableSize .wtab

/-- 44_synthesis R207: with the identity curve the shaper returns the sample unchanged below 32512, and 32512 from there
on (the top segment is flat). -/
def Obligations.IdentityCurveShapesToItself : Prop :=
  ∀ (m : Memory) (y : Int), (∀ j : Nat, j < 256 → memRead m .stab j = identityCurve j) → -32768 ≤ y → y ≤ 32767 →
    shapeSample m y = if y < 32512 then y else 32512

/-- 46_host_procedures R234: with an all-zero waveform and no shaping every delivered sample is 0. -/
def Obligations.ZeroWaveformIsSilent : Prop :=
  ∀ (s : State) (p v : Capture), s.wlen ≠ 3#2 → s.shapeEn = false →
    (∀ j : Nat, j < 1024 * 2 ^ s.wlen.toNat → memRead s.mem .wtab j = 0) → RenderTick s →
    ∃ t : State, exec (.tick p v) s = .next t ∧ t.emitted = some 0#16

/-- 44_synthesis R202 to R204: the interpolated waveform value is the same after any number of table lengths `L` · 2^20
of phase. -/
def Obligations.WaveformRepeatsEveryTableLength : Prop :=
  ∀ (m : Memory) (l : BitVec 2) (phase : Word) (n : Nat), l ≠ 3#2 →
    waveInterp m l (phase + BitVec.ofNat 32 (n * (1024 * 2 ^ l.toNat * 2 ^ 20))) = waveInterp m l phase

/-- 41_table_images R152, R155: the pitch image is non-decreasing for a non-negative `pitch_scale` and never above
`MAX_STEP`; the volume image is non-increasing for a non-negative `volume_scale` and always in 0 .. 1023. -/
def Obligations.HostImagesAreMonotone : Prop :=
  (∀ (m : Memory) (shiftConst pitchShift pitchScale stepNorm : Real) (maxStep : Nat),
    0 < shiftConst → 0 < pitchShift → 0 ≤ pitchScale → 0 < stepNorm →
    PitchImage m shiftConst pitchShift pitchScale stepNorm maxStep →
    NonDecreasing m .ptab ∧ ∀ i : Nat, i < tableSize .ptab → memRead m .ptab i ≤ maxStep) ∧
  (∀ (m : Memory) (volumeShift volumeScale : Real), 0 ≤ volumeScale → VolumeImage m volumeShift volumeScale →
    NonIncreasing m .vtab ∧ ∀ i : Nat, i < tableSize .vtab → 0 ≤ memRead m .vtab i ∧ memRead m .vtab i ≤ 1023)
end

