-- ==== Sys2Proof/Laws/Arith.lean ====
section
/-! SUPPORT. What `clamp` and `tdiv` do, and that narrowing a value inside a field's range loses nothing. -/

namespace Sys2Proof.Laws

open Sys2Proof.Machine

theorem clamp_eq_max_min {v lo hi : Int} (h : lo ≤ hi) : clamp v lo hi = max lo (min v hi) := by
  unfold clamp; split <;> [skip; split] <;> omega

theorem clamp_bounds {v lo hi : Int} (h : lo ≤ hi) : lo ≤ clamp v lo hi ∧ clamp v lo hi ≤ hi := by
  unfold clamp; split <;> [skip; split] <;> omega

theorem clamp_of_mem {v lo hi : Int} (h : lo ≤ v ∧ v ≤ hi) : clamp v lo hi = v := by
  unfold clamp; split <;> [skip; split] <;> omega

theorem tdiv_eq_int_tdiv (a : Int) (k : Nat) : tdiv a k = Int.tdiv a (2 ^ k) := by
  unfold tdiv
  split
  · next h => rw [Int.tdiv_eq_ediv_of_nonneg h]
  · next h =>
    have h' : 0 ≤ -a := by omega
    rw [← Int.tdiv_eq_ediv_of_nonneg h', Int.neg_tdiv, Int.neg_neg]

/-- `tdiv` of a non-negative number: a floor, between 0 and the number. -/
theorem tdiv_of_nonneg {a : Int} (k : Nat) (h : 0 ≤ a) :
    tdiv a k = a / 2 ^ k ∧ 0 ≤ tdiv a k ∧ tdiv a k ≤ a := by
  have hp : (0 : Int) < 2 ^ k := by positivity
  have h1 : tdiv a k = a / 2 ^ k := by unfold tdiv; simp [h]
  exact ⟨h1, h1 ▸ Int.ediv_nonneg h hp.le, h1 ▸ Int.ediv_le_self _ h⟩

/-- `tdiv` is odd. -/
theorem tdiv_neg (a : Int) (k : Nat) : tdiv (-a) k = -tdiv a k := by
  rw [tdiv_eq_int_tdiv, tdiv_eq_int_tdiv, Int.neg_tdiv]

/-- `tdiv` of a non-positive number: between the number and 0. -/
theorem tdiv_of_nonpos {a : Int} (k : Nat) (h : a ≤ 0) : a ≤ tdiv a k ∧ tdiv a k ≤ 0 := by
  have h1 := tdiv_of_nonneg k (show 0 ≤ -a by omega)
  have h2 := tdiv_neg a k
  omega

/-- Moving by a truncated part of the distance stays between the start and the goal. -/
theorem add_tdiv_sub_between (f g : Int) (k : Nat) :
    min f g ≤ f + tdiv (g - f) k ∧ f + tdiv (g - f) k ≤ max f g := by
  rcases Int.le_total 0 (g - f) with h | h
  · have := tdiv_of_nonneg k h; omega
  · have := tdiv_of_nonpos k h; omega

theorem toInt_ofInt_32 {v : Int} (h : -2 ^ 31 ≤ v ∧ v ≤ 2 ^ 31 - 1) : (BitVec.ofInt 32 v).toInt = v := by
  rw [BitVec.toInt_ofInt, Int.bmod_def]; omega

theorem toInt_ofInt_16 {v : Int} (h : -32768 ≤ v ∧ v ≤ 32767) : (BitVec.ofInt 16 v).toInt = v := by
  rw [BitVec.toInt_ofInt, Int.bmod_def]; omega

theorem toNat_ofInt_of_mem {w : Nat} {v : Int} (h0 : 0 ≤ v) (h1 : v < 2 ^ w) :
    ((BitVec.ofInt w v).toNat : Int) = v := by
  rw [BitVec.toNat_ofInt]
  have : v % ((2 ^ w : Nat) : Int) = v := by
    apply Int.emod_eq_of_lt h0; push_cast; exact h1
  rw [this]; omega

theorem toInt_bounds_32 (v : Word) : -2 ^ 31 ≤ v.toInt ∧ v.toInt ≤ 2 ^ 31 - 1 := by
  have := BitVec.le_toInt v; have := BitVec.toInt_lt (x := v); omega

end Sys2Proof.Laws
end

