-- ==== Sys2Proof/Laws/Decode.lean ====
section
/-! SUPPORT. The fields of an assembled event word. -/

namespace Sys2Proof.Laws

@[simp] theorem portOf_hostWord (op : BitVec 2) (a : HostAddr) (d : Word) : portOf (hostWord op a d) = 0#2 := by
  ext i hi
  simp only [portOf, hostWord, BitVec.getElem_extractLsb', BitVec.getLsbD_append]
  have : i = 0 ∨ i = 1 := by omega
  rcases this with rfl | rfl <;> simp

@[simp] theorem opOf_hostWord (op : BitVec 2) (a : HostAddr) (d : Word) : opOf (hostWord op a d) = op := by
  ext i hi
  simp only [opOf, hostWord, BitVec.getElem_extractLsb', BitVec.getLsbD_append]
  have : i = 0 ∨ i = 1 := by omega
  rcases this with rfl | rfl <;> simp [BitVec.getLsbD_eq_getElem]

@[simp] theorem addrOf_hostWord (op : BitVec 2) (a : HostAddr) (d : Word) : addrOf (hostWord op a d) = a := by
  ext i hi
  simp only [addrOf, hostWord, BitVec.getElem_extractLsb', BitVec.getLsbD_append]
  have h1 : ¬(32 + i < 32) := by omega
  have h2 : 32 + i - 32 = i := by omega
  simp [h2, hi, BitVec.getLsbD_eq_getElem]

@[simp] theorem dataOf_hostWord (op : BitVec 2) (a : HostAddr) (d : Word) : dataOf (hostWord op a d) = d := by
  ext i hi
  simp only [dataOf, hostWord, BitVec.getElem_extractLsb', BitVec.getLsbD_append]
  simp [hi, BitVec.getLsbD_eq_getElem]

/-- A host word decodes by its fields. -/
theorem decode_hostWord (op : BitVec 2) (a : HostAddr) (d : Word) : decode (hostWord op a d) = decodeHost op a d := by
  simp [decode]

/-- A write word decodes by its address. -/
@[simp] theorem decode_writeWord (a : HostAddr) (d : Word) : decode (writeWord a d) = decodeWrite a d := by
  simp [writeWord, decode_hostWord, decodeHost]

/-- A read word decodes by its address. -/
@[simp] theorem decode_readWord (a : HostAddr) : decode (readWord a) = decodeRead a := by
  simp [readWord, decode_hostWord, decodeHost]

@[simp] theorem portOf_tickWord (p v : Capture) : portOf (tickWord p v) = 1#2 := by
  ext i hi
  simp only [portOf, tickWord, BitVec.getElem_extractLsb', BitVec.getLsbD_append]
  have : i = 0 ∨ i = 1 := by omega
  rcases this with rfl | rfl <;> simp

@[simp] theorem capPOf_tickWord (p v : Capture) : capPOf (tickWord p v) = p := by
  ext i hi
  simp only [capPOf, tickWord, BitVec.getElem_extractLsb', BitVec.getLsbD_append]
  simp [hi, BitVec.getLsbD_eq_getElem]

@[simp] theorem capVOf_tickWord (p v : Capture) : capVOf (tickWord p v) = v := by
  ext i hi
  simp only [capVOf, tickWord, BitVec.getElem_extractLsb', BitVec.getLsbD_append]
  simp [hi, BitVec.getLsbD_eq_getElem]

/-- A TICK word decodes by its captures. -/
@[simp] theorem decode_tickWord (p v : Capture) : decode (tickWord p v) = .tick p v := by simp [decode]

/-- The address of an entry of `PTAB` names that entry (20_memory R66). -/
theorem addrTarget_ptab (i : Nat) (h : i < 2048) : addrTarget (entryAddr .ptab i) = .ptab (BitVec.ofNat 11 i) := by
  have h1 : (entryAddr .ptab i).toNat = 0x800 + i := by simp [entryAddr, tableBase]; omega
  simp only [addrTarget, h1]
  rw [if_neg (by omega), if_pos (by omega)]
  congr 1
  apply BitVec.eq_of_toNat_eq
  simp [h1]

/-- The address of an entry of `VTAB` names that entry (20_memory R66). -/
theorem addrTarget_vtab (i : Nat) (h : i < 1024) : addrTarget (entryAddr .vtab i) = .vtab (BitVec.ofNat 10 i) := by
  have h1 : (entryAddr .vtab i).toNat = 0x1000 + i := by simp [entryAddr, tableBase]; omega
  simp only [addrTarget, h1]
  rw [if_neg (by omega), if_neg (by omega), if_pos (by omega)]
  congr 1
  apply BitVec.eq_of_toNat_eq
  simp [h1]; omega

/-- The address of an entry of `STAB` names that entry (20_memory R66). -/
theorem addrTarget_stab (i : Nat) (h : i < 256) : addrTarget (entryAddr .stab i) = .stab (BitVec.ofNat 8 i) := by
  have h1 : (entryAddr .stab i).toNat = 0x1400 + i := by simp [entryAddr, tableBase]; omega
  simp only [addrTarget, h1]
  rw [if_neg (by omega), if_neg (by omega), if_neg (by omega), if_pos (by omega)]
  congr 1
  apply BitVec.eq_of_toNat_eq
  simp [h1]; omega

/-- The address of an entry of `WTAB` names that entry (20_memory R66). -/
theorem addrTarget_wtab (i : Nat) (h : i < 4096) : addrTarget (entryAddr .wtab i) = .wtab (BitVec.ofNat 12 i) := by
  have h1 : (entryAddr .wtab i).toNat = 0x2000 + i := by simp [entryAddr, tableBase]; omega
  simp only [addrTarget, h1]
  rw [if_neg (by omega), if_neg (by omega), if_neg (by omega), if_neg (by omega), if_neg (by omega), if_pos (by omega)]
  congr 1
  apply BitVec.eq_of_toNat_eq
  simp [h1]; omega

end Sys2Proof.Laws
end

