-- ==== Sys2Proof/Laws/Memory.lean ====
section
/-! SUPPORT. The laws of table access: read after write, everything else kept, the canonical form kept. -/

namespace Sys2Proof.Laws

open Sys2Proof.Machine

/-- Read after write of one table, whatever its list looks like. -/
theorem lookupEntry_insertEntry {w : Nat} (l : Entries w) (i j : Nat) (v : BitVec w) :
    lookupEntry (insertEntry l i v) j = if j = i then some v else lookupEntry l j := by
  induction l with
  | nil => simp [insertEntry, lookupEntry]
  | cons e rest ih =>
    obtain ⟨k, u⟩ := e
    unfold insertEntry
    split
    · simp [lookupEntry]
    · split
      · next h => subst h; by_cases hj : j = i <;> simp [lookupEntry, hj]
      · next h =>
        by_cases hj : j = k
        · subst hj; simp [lookupEntry, Ne.symm h]
        · simp [lookupEntry, hj, ih]

/-- Writing the same entry twice leaves what writing it once left. -/
theorem insertEntry_idem {w : Nat} (l : Entries w) (i : Nat) (v : BitVec w) :
    insertEntry (insertEntry l i v) i v = insertEntry l i v := by
  induction l with
  | nil => simp [insertEntry]
  | cons e rest ih =>
    obtain ⟨k, u⟩ := e
    by_cases h1 : i < k
    · simp [insertEntry, h1]
    · by_cases h2 : i = k
      · simp [insertEntry, h2]
      · simp [insertEntry, h1, h2, ih]

/-- An insertion keeps the indices rising and inside the table. -/
theorem entriesRise_insertEntry {w : Nat} (n : Nat) (l : Entries w) (i : Nat) (v : BitVec w) (lo : Nat)
    (h : entriesRise n lo l = true) (hlo : lo ≤ i) (hi : i < n) : entriesRise n lo (insertEntry l i v) = true := by
  induction l generalizing lo with
  | nil => simp [insertEntry, entriesRise, hlo, hi]
  | cons e rest ih =>
    obtain ⟨k, u⟩ := e
    simp only [entriesRise, Bool.and_eq_true, decide_eq_true_eq] at h
    obtain ⟨⟨h1, h2⟩, h3⟩ := h
    unfold insertEntry
    split
    · next hk =>
      simp only [entriesRise, Bool.and_eq_true, decide_eq_true_eq]
      exact ⟨⟨hlo, hi⟩, ⟨by omega, h2⟩, h3⟩
    · split
      · next hk =>
        subst hk
        simp only [entriesRise, Bool.and_eq_true, decide_eq_true_eq]
        exact ⟨⟨hlo, hi⟩, h3⟩
      · next hk1 hk2 =>
        simp only [entriesRise, Bool.and_eq_true, decide_eq_true_eq]
        exact ⟨⟨h1, h2⟩, ih (k + 1) h3 (by omega)⟩

/-- Every table write inside the table keeps the canonical form of the memory. -/
theorem memWrite_wf (m : Memory) (t : TableName) (i : Nat) (v : Int) (h : m.wf = true) (hi : i < tableSize t) :
    (memWrite m t i v).wf = true := by
  simp only [Memory.wf, Bool.and_eq_true] at h
  obtain ⟨⟨⟨hp, hv⟩, hs⟩, hw⟩ := h
  cases t <;> simp only [tableSize] at hi <;> simp only [memWrite, Memory.wf, Bool.and_eq_true]
  · exact ⟨⟨⟨entriesRise_insertEntry _ _ _ _ _ hp (Nat.zero_le _) hi, hv⟩, hs⟩, hw⟩
  · exact ⟨⟨⟨hp, entriesRise_insertEntry _ _ _ _ _ hv (Nat.zero_le _) hi⟩, hs⟩, hw⟩
  · exact ⟨⟨⟨hp, hv⟩, entriesRise_insertEntry _ _ _ _ _ hs (Nat.zero_le _) hi⟩, hw⟩
  · exact ⟨⟨⟨hp, hv⟩, hs⟩, entriesRise_insertEntry _ _ _ _ _ hw (Nat.zero_le _) hi⟩

/-- The tables right after power-on are in canonical form. -/
theorem reset_mem_wf : State.reset.mem.wf = true := by decide

/-- What a stored value reads back as: the value reduced to the entry's width and type (10_state R40 to R43). -/
def storedValue : TableName → Int → Int
  | .ptab, v => (BitVec.ofInt 32 v).toNat
  | .vtab, v => (BitVec.ofInt 10 v).toNat
  | .stab, v => (BitVec.ofInt 16 v).toInt
  | .wtab, v => (BitVec.ofInt 16 v).toInt

/-- Reading any entry after a write of one entry. -/
theorem memRead_memWrite (m : Memory) (t u : TableName) (i j : Nat) (v : Int) :
    memRead (memWrite m t i v) u j = if u = t ∧ j = i then storedValue t v else memRead m u j := by
  cases t <;> cases u <;>
    simp [memWrite, memRead, lookupEntry_insertEntry, storedValue] <;>
    (by_cases h : j = i <;> simp [h])

/-- The range of an entry, by its table (10_state R40 to R43). -/
theorem memRead_ptab_range (m : Memory) (i : Nat) : 0 ≤ memRead m .ptab i ∧ memRead m .ptab i < 2 ^ 32 := by
  simp only [memRead]
  have := ((lookupEntry m.ptab i).getD (Config.powerOnPtab i)).isLt
  omega

theorem memRead_vtab_range (m : Memory) (i : Nat) : 0 ≤ memRead m .vtab i ∧ memRead m .vtab i ≤ 1023 := by
  simp only [memRead]
  have := ((lookupEntry m.vtab i).getD (Config.powerOnVtab i)).isLt
  omega

theorem memRead_stab_range (m : Memory) (i : Nat) : -32768 ≤ memRead m .stab i ∧ memRead m .stab i ≤ 32767 := by
  simp only [memRead]
  have h1 := BitVec.le_toInt ((lookupEntry m.stab i).getD (Config.powerOnStab i))
  have h2 := BitVec.toInt_lt (x := (lookupEntry m.stab i).getD (Config.powerOnStab i))
  omega

theorem memRead_wtab_range (m : Memory) (i : Nat) : -32768 ≤ memRead m .wtab i ∧ memRead m .wtab i ≤ 32767 := by
  simp only [memRead]
  have h1 := BitVec.le_toInt ((lookupEntry m.wtab i).getD (Config.powerOnWtab i))
  have h2 := BitVec.toInt_lt (x := (lookupEntry m.wtab i).getD (Config.powerOnWtab i))
  omega

/-- A table loaded by a function of the index reads as that function. -/
theorem lookupEntry_map_range' {w : Nat} (f : Nat → BitVec w) (n lo i : Nat) (h0 : lo ≤ i) (h1 : i < lo + n) :
    lookupEntry ((List.range' lo n).map fun k => (k, f k)) i = some (f i) := by
  induction n generalizing lo with
  | zero => omega
  | succ n ih =>
    by_cases h : i = lo
    · subst h; simp [List.range'_succ, lookupEntry]
    · simp only [List.range'_succ, List.map_cons, lookupEntry, h, if_false]
      exact ih (lo + 1) (by omega) (by omega)

end Sys2Proof.Laws
end

