-- ==== Sys2Proof/Laws/PerInstr.lean ====
section
/-! SUPPORT. A fact about every operation as syntax, one lemma per constructor: its encoding carries the port and the
operation code of its format (30_encoding R85, R87 to R89). -/

namespace Sys2Proof.Laws.EncodedFields

/-- The `port` field of an operation's format, and its `op` field where the format is H. -/
def formatOf : Instr → BitVec 2 × Option (BitVec 2)
  | .wrCtrl _ _ _ _ | .wrPofs _ | .wrVofs _ | .wrFpitch _ | .wrFvol _ | .wrPhase _ | .wrAmp _
  | .wrRoStatus | .wrRoPctl | .wrRoVctl | .wrRoCapp | .wrRoCapv | .wrRoSample | .wrRoStep | .wrPtab _ _
  | .wrVtab _ _ | .wrStab _ _ | .wrWtab _ _ | .wrRsvd _ => (0#2, some 1#2)
  | .rdCtrl | .rdStatus | .rdPofs | .rdVofs | .rdFpitch | .rdFvol | .rdPhase | .rdAmp | .rdPctl
  | .rdVctl | .rdCapp | .rdCapv | .rdSample | .rdStep | .rdPtab _ | .rdVtab _ | .rdStab _ | .rdWtab _
  | .rdRsvd _ => (0#2, some 2#2)
  | .hnop => (0#2, some 0#2)
  | .hrsv => (0#2, some 3#2)
  | .tick _ _ => (1#2, none)
  | .reset => (2#2, none)
  | .evrsv => (3#2, none)

/-- The encoding of the operation carries its format's port and operation code. -/
def Statement (i : Instr) : Prop :=
  portOf (encode i) = (formatOf i).1 ∧ ∀ op, (formatOf i).2 = some op → opOf (encode i) = op

/-- Every host word has them. -/
theorem of_hostWord {i : Instr} {op : BitVec 2} {a : HostAddr} {d : Word} (h : encode i = hostWord op a d)
    (hf : formatOf i = (0#2, some op)) : Statement i := by
  unfold Statement
  rw [h, hf]
  exact ⟨portOf_hostWord op a d, fun o ho => by rw [opOf_hostWord]; exact Option.some.inj ho⟩

theorem wrCtrl (mute div2 shapeEn : Bool) (wlen : BitVec 2) : Statement (.wrCtrl mute div2 shapeEn wlen) :=
  of_hostWord rfl rfl
theorem rdCtrl : Statement (.rdCtrl) := of_hostWord rfl rfl
theorem rdStatus : Statement (.rdStatus) := of_hostWord rfl rfl
theorem wrPofs (data : Word) : Statement (.wrPofs data) := of_hostWord rfl rfl
theorem rdPofs : Statement (.rdPofs) := of_hostWord rfl rfl
theorem wrVofs (data : Word) : Statement (.wrVofs data) := of_hostWord rfl rfl
theorem rdVofs : Statement (.rdVofs) := of_hostWord rfl rfl
theorem wrFpitch (data : Word) : Statement (.wrFpitch data) := of_hostWord rfl rfl
theorem rdFpitch : Statement (.rdFpitch) := of_hostWord rfl rfl
theorem wrFvol (data : Word) : Statement (.wrFvol data) := of_hostWord rfl rfl
theorem rdFvol : Statement (.rdFvol) := of_hostWord rfl rfl
theorem wrPhase (data : Word) : Statement (.wrPhase data) := of_hostWord rfl rfl
theorem rdPhase : Statement (.rdPhase) := of_hostWord rfl rfl
theorem wrAmp (data : Word) : Statement (.wrAmp data) := of_hostWord rfl rfl
theorem rdAmp : Statement (.rdAmp) := of_hostWord rfl rfl
theorem rdPctl : Statement (.rdPctl) := of_hostWord rfl rfl
theorem rdVctl : Statement (.rdVctl) := of_hostWord rfl rfl
theorem rdCapp : Statement (.rdCapp) := of_hostWord rfl rfl
theorem rdCapv : Statement (.rdCapv) := of_hostWord rfl rfl
theorem rdSample : Statement (.rdSample) := of_hostWord rfl rfl
theorem rdStep : Statement (.rdStep) := of_hostWord rfl rfl
theorem wrRoStatus : Statement (.wrRoStatus) := of_hostWord rfl rfl
theorem wrRoPctl : Statement (.wrRoPctl) := of_hostWord rfl rfl
theorem wrRoVctl : Statement (.wrRoVctl) := of_hostWord rfl rfl
theorem wrRoCapp : Statement (.wrRoCapp) := of_hostWord rfl rfl
theorem wrRoCapv : Statement (.wrRoCapv) := of_hostWord rfl rfl
theorem wrRoSample : Statement (.wrRoSample) := of_hostWord rfl rfl
theorem wrRoStep : Statement (.wrRoStep) := of_hostWord rfl rfl
theorem wrPtab (i : BitVec 11) (data : Word) : Statement (.wrPtab i data) := of_hostWord rfl rfl
theorem rdPtab (i : BitVec 11) : Statement (.rdPtab i) := of_hostWord rfl rfl
theorem wrVtab (i : BitVec 10) (data : Word) : Statement (.wrVtab i data) := of_hostWord rfl rfl
theorem rdVtab (i : BitVec 10) : Statement (.rdVtab i) := of_hostWord rfl rfl
theorem wrStab (i : BitVec 8) (data : Word) : Statement (.wrStab i data) := of_hostWord rfl rfl
theorem rdStab (i : BitVec 8) : Statement (.rdStab i) := of_hostWord rfl rfl
theorem wrWtab (i : BitVec 12) (data : Word) : Statement (.wrWtab i data) := of_hostWord rfl rfl
theorem rdWtab (i : BitVec 12) : Statement (.rdWtab i) := of_hostWord rfl rfl
theorem hnop : Statement (.hnop) := of_hostWord rfl rfl
theorem hrsv : Statement (.hrsv) := of_hostWord rfl rfl
theorem wrRsvd (addr : HostAddr) : Statement (.wrRsvd addr) := of_hostWord rfl rfl
theorem rdRsvd (addr : HostAddr) : Statement (.rdRsvd addr) := of_hostWord rfl rfl
theorem tick (capP capV : Capture) : Statement (.tick capP capV) := ⟨portOf_tickWord capP capV, fun _ h => nomatch h⟩
theorem reset : Statement (.reset) := ⟨by decide, fun _ h => nomatch h⟩
theorem evrsv : Statement (.evrsv) := ⟨by decide, fun _ h => nomatch h⟩

end Sys2Proof.Laws.EncodedFields
end

