-- ==== Sys2Proof/Laws/State.lean ====
section
/-! SUPPORT. Every field after every named update of the state, true by unfolding the update once. -/

namespace Sys2Proof.Laws

open Sys2Proof.Machine

variable (s : State)

@[simp] theorem answer_mute (err : Bool) (rdata : Word) : (s.answer err rdata).mute = s.mute := rfl
@[simp] theorem answer_div2 (err : Bool) (rdata : Word) : (s.answer err rdata).div2 = s.div2 := rfl
@[simp] theorem answer_shapeEn (err : Bool) (rdata : Word) : (s.answer err rdata).shapeEn = s.shapeEn := rfl
@[simp] theorem answer_wlen (err : Bool) (rdata : Word) : (s.answer err rdata).wlen = s.wlen := rfl
@[simp] theorem answer_divph (err : Bool) (rdata : Word) : (s.answer err rdata).divph = s.divph := rfl
@[simp] theorem answer_pofs (err : Bool) (rdata : Word) : (s.answer err rdata).pofs = s.pofs := rfl
@[simp] theorem answer_vofs (err : Bool) (rdata : Word) : (s.answer err rdata).vofs = s.vofs := rfl
@[simp] theorem answer_fpitch (err : Bool) (rdata : Word) : (s.answer err rdata).fpitch = s.fpitch := rfl
@[simp] theorem answer_fvol (err : Bool) (rdata : Word) : (s.answer err rdata).fvol = s.fvol := rfl
@[simp] theorem answer_phase (err : Bool) (rdata : Word) : (s.answer err rdata).phase = s.phase := rfl
@[simp] theorem answer_amp (err : Bool) (rdata : Word) : (s.answer err rdata).amp = s.amp := rfl
@[simp] theorem answer_stepReg (err : Bool) (rdata : Word) : (s.answer err rdata).stepReg = s.stepReg := rfl
@[simp] theorem answer_pctl (err : Bool) (rdata : Word) : (s.answer err rdata).pctl = s.pctl := rfl
@[simp] theorem answer_vctl (err : Bool) (rdata : Word) : (s.answer err rdata).vctl = s.vctl := rfl
@[simp] theorem answer_capp (err : Bool) (rdata : Word) : (s.answer err rdata).capp = s.capp := rfl
@[simp] theorem answer_capv (err : Bool) (rdata : Word) : (s.answer err rdata).capv = s.capv := rfl
@[simp] theorem answer_sample (err : Bool) (rdata : Word) : (s.answer err rdata).sample = s.sample := rfl
@[simp] theorem answer_mem (err : Bool) (rdata : Word) : (s.answer err rdata).mem = s.mem := rfl
@[simp] theorem answer_pending (err : Bool) (rdata : Word) : (s.answer err rdata).pending = s.pending := rfl
@[simp] theorem answer_resp (err : Bool) (rdata : Word) : (s.answer err rdata).resp = some { err := err, rdata := rdata } := rfl
@[simp] theorem answer_emitted (err : Bool) (rdata : Word) : (s.answer err rdata).emitted = none := rfl

@[simp] theorem silent_mute : (s.silent).mute = s.mute := rfl
@[simp] theorem silent_div2 : (s.silent).div2 = s.div2 := rfl
@[simp] theorem silent_shapeEn : (s.silent).shapeEn = s.shapeEn := rfl
@[simp] theorem silent_wlen : (s.silent).wlen = s.wlen := rfl
@[simp] theorem silent_divph : (s.silent).divph = s.divph := rfl
@[simp] theorem silent_pofs : (s.silent).pofs = s.pofs := rfl
@[simp] theorem silent_vofs : (s.silent).vofs = s.vofs := rfl
@[simp] theorem silent_fpitch : (s.silent).fpitch = s.fpitch := rfl
@[simp] theorem silent_fvol : (s.silent).fvol = s.fvol := rfl
@[simp] theorem silent_phase : (s.silent).phase = s.phase := rfl
@[simp] theorem silent_amp : (s.silent).amp = s.amp := rfl
@[simp] theorem silent_stepReg : (s.silent).stepReg = s.stepReg := rfl
@[simp] theorem silent_pctl : (s.silent).pctl = s.pctl := rfl
@[simp] theorem silent_vctl : (s.silent).vctl = s.vctl := rfl
@[simp] theorem silent_capp : (s.silent).capp = s.capp := rfl
@[simp] theorem silent_capv : (s.silent).capv = s.capv := rfl
@[simp] theorem silent_sample : (s.silent).sample = s.sample := rfl
@[simp] theorem silent_mem : (s.silent).mem = s.mem := rfl
@[simp] theorem silent_pending : (s.silent).pending = s.pending := rfl
@[simp] theorem silent_resp : (s.silent).resp = none := rfl
@[simp] theorem silent_emitted : (s.silent).emitted = none := rfl

@[simp] theorem setCtrl_mute (m d sh : Bool) (l : BitVec 2) : (s.setCtrl m d sh l).mute = m := rfl
@[simp] theorem setCtrl_div2 (m d sh : Bool) (l : BitVec 2) : (s.setCtrl m d sh l).div2 = d := rfl
@[simp] theorem setCtrl_shapeEn (m d sh : Bool) (l : BitVec 2) : (s.setCtrl m d sh l).shapeEn = sh := rfl
@[simp] theorem setCtrl_wlen (m d sh : Bool) (l : BitVec 2) : (s.setCtrl m d sh l).wlen = l := rfl
@[simp] theorem setCtrl_divph (m d sh : Bool) (l : BitVec 2) : (s.setCtrl m d sh l).divph = s.divph := rfl
@[simp] theorem setCtrl_pofs (m d sh : Bool) (l : BitVec 2) : (s.setCtrl m d sh l).pofs = s.pofs := rfl
@[simp] theorem setCtrl_vofs (m d sh : Bool) (l : BitVec 2) : (s.setCtrl m d sh l).vofs = s.vofs := rfl
@[simp] theorem setCtrl_fpitch (m d sh : Bool) (l : BitVec 2) : (s.setCtrl m d sh l).fpitch = s.fpitch := rfl
@[simp] theorem setCtrl_fvol (m d sh : Bool) (l : BitVec 2) : (s.setCtrl m d sh l).fvol = s.fvol := rfl
@[simp] theorem setCtrl_phase (m d sh : Bool) (l : BitVec 2) : (s.setCtrl m d sh l).phase = s.phase := rfl
@[simp] theorem setCtrl_amp (m d sh : Bool) (l : BitVec 2) : (s.setCtrl m d sh l).amp = s.amp := rfl
@[simp] theorem setCtrl_stepReg (m d sh : Bool) (l : BitVec 2) : (s.setCtrl m d sh l).stepReg = s.stepReg := rfl
@[simp] theorem setCtrl_pctl (m d sh : Bool) (l : BitVec 2) : (s.setCtrl m d sh l).pctl = s.pctl := rfl
@[simp] theorem setCtrl_vctl (m d sh : Bool) (l : BitVec 2) : (s.setCtrl m d sh l).vctl = s.vctl := rfl
@[simp] theorem setCtrl_capp (m d sh : Bool) (l : BitVec 2) : (s.setCtrl m d sh l).capp = s.capp := rfl
@[simp] theorem setCtrl_capv (m d sh : Bool) (l : BitVec 2) : (s.setCtrl m d sh l).capv = s.capv := rfl
@[simp] theorem setCtrl_sample (m d sh : Bool) (l : BitVec 2) : (s.setCtrl m d sh l).sample = s.sample := rfl
@[simp] theorem setCtrl_mem (m d sh : Bool) (l : BitVec 2) : (s.setCtrl m d sh l).mem = s.mem := rfl
@[simp] theorem setCtrl_pending (m d sh : Bool) (l : BitVec 2) : (s.setCtrl m d sh l).pending = s.pending := rfl
@[simp] theorem setCtrl_resp (m d sh : Bool) (l : BitVec 2) : (s.setCtrl m d sh l).resp = s.resp := rfl
@[simp] theorem setCtrl_emitted (m d sh : Bool) (l : BitVec 2) : (s.setCtrl m d sh l).emitted = s.emitted := rfl

@[simp] theorem setPofs_mute (v : Word) : (s.setPofs v).mute = s.mute := rfl
@[simp] theorem setPofs_div2 (v : Word) : (s.setPofs v).div2 = s.div2 := rfl
@[simp] theorem setPofs_shapeEn (v : Word) : (s.setPofs v).shapeEn = s.shapeEn := rfl
@[simp] theorem setPofs_wlen (v : Word) : (s.setPofs v).wlen = s.wlen := rfl
@[simp] theorem setPofs_divph (v : Word) : (s.setPofs v).divph = s.divph := rfl
@[simp] theorem setPofs_pofs (v : Word) : (s.setPofs v).pofs = v := rfl
@[simp] theorem setPofs_vofs (v : Word) : (s.setPofs v).vofs = s.vofs := rfl
@[simp] theorem setPofs_fpitch (v : Word) : (s.setPofs v).fpitch = s.fpitch := rfl
@[simp] theorem setPofs_fvol (v : Word) : (s.setPofs v).fvol = s.fvol := rfl
@[simp] theorem setPofs_phase (v : Word) : (s.setPofs v).phase = s.phase := rfl
@[simp] theorem setPofs_amp (v : Word) : (s.setPofs v).amp = s.amp := rfl
@[simp] theorem setPofs_stepReg (v : Word) : (s.setPofs v).stepReg = s.stepReg := rfl
@[simp] theorem setPofs_pctl (v : Word) : (s.setPofs v).pctl = s.pctl := rfl
@[simp] theorem setPofs_vctl (v : Word) : (s.setPofs v).vctl = s.vctl := rfl
@[simp] theorem setPofs_capp (v : Word) : (s.setPofs v).capp = s.capp := rfl
@[simp] theorem setPofs_capv (v : Word) : (s.setPofs v).capv = s.capv := rfl
@[simp] theorem setPofs_sample (v : Word) : (s.setPofs v).sample = s.sample := rfl
@[simp] theorem setPofs_mem (v : Word) : (s.setPofs v).mem = s.mem := rfl
@[simp] theorem setPofs_pending (v : Word) : (s.setPofs v).pending = s.pending := rfl
@[simp] theorem setPofs_resp (v : Word) : (s.setPofs v).resp = s.resp := rfl
@[simp] theorem setPofs_emitted (v : Word) : (s.setPofs v).emitted = s.emitted := rfl

@[simp] theorem setVofs_mute (v : Word) : (s.setVofs v).mute = s.mute := rfl
@[simp] theorem setVofs_div2 (v : Word) : (s.setVofs v).div2 = s.div2 := rfl
@[simp] theorem setVofs_shapeEn (v : Word) : (s.setVofs v).shapeEn = s.shapeEn := rfl
@[simp] theorem setVofs_wlen (v : Word) : (s.setVofs v).wlen = s.wlen := rfl
@[simp] theorem setVofs_divph (v : Word) : (s.setVofs v).divph = s.divph := rfl
@[simp] theorem setVofs_pofs (v : Word) : (s.setVofs v).pofs = s.pofs := rfl
@[simp] theorem setVofs_vofs (v : Word) : (s.setVofs v).vofs = v := rfl
@[simp] theorem setVofs_fpitch (v : Word) : (s.setVofs v).fpitch = s.fpitch := rfl
@[simp] theorem setVofs_fvol (v : Word) : (s.setVofs v).fvol = s.fvol := rfl
@[simp] theorem setVofs_phase (v : Word) : (s.setVofs v).phase = s.phase := rfl
@[simp] theorem setVofs_amp (v : Word) : (s.setVofs v).amp = s.amp := rfl
@[simp] theorem setVofs_stepReg (v : Word) : (s.setVofs v).stepReg = s.stepReg := rfl
@[simp] theorem setVofs_pctl (v : Word) : (s.setVofs v).pctl = s.pctl := rfl
@[simp] theorem setVofs_vctl (v : Word) : (s.setVofs v).vctl = s.vctl := rfl
@[simp] theorem setVofs_capp (v : Word) : (s.setVofs v).capp = s.capp := rfl
@[simp] theorem setVofs_capv (v : Word) : (s.setVofs v).capv = s.capv := rfl
@[simp] theorem setVofs_sample (v : Word) : (s.setVofs v).sample = s.sample := rfl
@[simp] theorem setVofs_mem (v : Word) : (s.setVofs v).mem = s.mem := rfl
@[simp] theorem setVofs_pending (v : Word) : (s.setVofs v).pending = s.pending := rfl
@[simp] theorem setVofs_resp (v : Word) : (s.setVofs v).resp = s.resp := rfl
@[simp] theorem setVofs_emitted (v : Word) : (s.setVofs v).emitted = s.emitted := rfl

@[simp] theorem setFpitch_mute (v : Word) : (s.setFpitch v).mute = s.mute := rfl
@[simp] theorem setFpitch_div2 (v : Word) : (s.setFpitch v).div2 = s.div2 := rfl
@[simp] theorem setFpitch_shapeEn (v : Word) : (s.setFpitch v).shapeEn = s.shapeEn := rfl
@[simp] theorem setFpitch_wlen (v : Word) : (s.setFpitch v).wlen = s.wlen := rfl
@[simp] theorem setFpitch_divph (v : Word) : (s.setFpitch v).divph = s.divph := rfl
@[simp] theorem setFpitch_pofs (v : Word) : (s.setFpitch v).pofs = s.pofs := rfl
@[simp] theorem setFpitch_vofs (v : Word) : (s.setFpitch v).vofs = s.vofs := rfl
@[simp] theorem setFpitch_fpitch (v : Word) : (s.setFpitch v).fpitch = v := rfl
@[simp] theorem setFpitch_fvol (v : Word) : (s.setFpitch v).fvol = s.fvol := rfl
@[simp] theorem setFpitch_phase (v : Word) : (s.setFpitch v).phase = s.phase := rfl
@[simp] theorem setFpitch_amp (v : Word) : (s.setFpitch v).amp = s.amp := rfl
@[simp] theorem setFpitch_stepReg (v : Word) : (s.setFpitch v).stepReg = s.stepReg := rfl
@[simp] theorem setFpitch_pctl (v : Word) : (s.setFpitch v).pctl = s.pctl := rfl
@[simp] theorem setFpitch_vctl (v : Word) : (s.setFpitch v).vctl = s.vctl := rfl
@[simp] theorem setFpitch_capp (v : Word) : (s.setFpitch v).capp = s.capp := rfl
@[simp] theorem setFpitch_capv (v : Word) : (s.setFpitch v).capv = s.capv := rfl
@[simp] theorem setFpitch_sample (v : Word) : (s.setFpitch v).sample = s.sample := rfl
@[simp] theorem setFpitch_mem (v : Word) : (s.setFpitch v).mem = s.mem := rfl
@[simp] theorem setFpitch_pending (v : Word) : (s.setFpitch v).pending = s.pending := rfl
@[simp] theorem setFpitch_resp (v : Word) : (s.setFpitch v).resp = s.resp := rfl
@[simp] theorem setFpitch_emitted (v : Word) : (s.setFpitch v).emitted = s.emitted := rfl

@[simp] theorem setFvol_mute (v : Word) : (s.setFvol v).mute = s.mute := rfl
@[simp] theorem setFvol_div2 (v : Word) : (s.setFvol v).div2 = s.div2 := rfl
@[simp] theorem setFvol_shapeEn (v : Word) : (s.setFvol v).shapeEn = s.shapeEn := rfl
@[simp] theorem setFvol_wlen (v : Word) : (s.setFvol v).wlen = s.wlen := rfl
@[simp] theorem setFvol_divph (v : Word) : (s.setFvol v).divph = s.divph := rfl
@[simp] theorem setFvol_pofs (v : Word) : (s.setFvol v).pofs = s.pofs := rfl
@[simp] theorem setFvol_vofs (v : Word) : (s.setFvol v).vofs = s.vofs := rfl
@[simp] theorem setFvol_fpitch (v : Word) : (s.setFvol v).fpitch = s.fpitch := rfl
@[simp] theorem setFvol_fvol (v : Word) : (s.setFvol v).fvol = v := rfl
@[simp] theorem setFvol_phase (v : Word) : (s.setFvol v).phase = s.phase := rfl
@[simp] theorem setFvol_amp (v : Word) : (s.setFvol v).amp = s.amp := rfl
@[simp] theorem setFvol_stepReg (v : Word) : (s.setFvol v).stepReg = s.stepReg := rfl
@[simp] theorem setFvol_pctl (v : Word) : (s.setFvol v).pctl = s.pctl := rfl
@[simp] theorem setFvol_vctl (v : Word) : (s.setFvol v).vctl = s.vctl := rfl
@[simp] theorem setFvol_capp (v : Word) : (s.setFvol v).capp = s.capp := rfl
@[simp] theorem setFvol_capv (v : Word) : (s.setFvol v).capv = s.capv := rfl
@[simp] theorem setFvol_sample (v : Word) : (s.setFvol v).sample = s.sample := rfl
@[simp] theorem setFvol_mem (v : Word) : (s.setFvol v).mem = s.mem := rfl
@[simp] theorem setFvol_pending (v : Word) : (s.setFvol v).pending = s.pending := rfl
@[simp] theorem setFvol_resp (v : Word) : (s.setFvol v).resp = s.resp := rfl
@[simp] theorem setFvol_emitted (v : Word) : (s.setFvol v).emitted = s.emitted := rfl

@[simp] theorem setPhase_mute (v : Word) : (s.setPhase v).mute = s.mute := rfl
@[simp] theorem setPhase_div2 (v : Word) : (s.setPhase v).div2 = s.div2 := rfl
@[simp] theorem setPhase_shapeEn (v : Word) : (s.setPhase v).shapeEn = s.shapeEn := rfl
@[simp] theorem setPhase_wlen (v : Word) : (s.setPhase v).wlen = s.wlen := rfl
@[simp] theorem setPhase_divph (v : Word) : (s.setPhase v).divph = s.divph := rfl
@[simp] theorem setPhase_pofs (v : Word) : (s.setPhase v).pofs = s.pofs := rfl
@[simp] theorem setPhase_vofs (v : Word) : (s.setPhase v).vofs = s.vofs := rfl
@[simp] theorem setPhase_fpitch (v : Word) : (s.setPhase v).fpitch = s.fpitch := rfl
@[simp] theorem setPhase_fvol (v : Word) : (s.setPhase v).fvol = s.fvol := rfl
@[simp] theorem setPhase_phase (v : Word) : (s.setPhase v).phase = v := rfl
@[simp] theorem setPhase_amp (v : Word) : (s.setPhase v).amp = s.amp := rfl
@[simp] theorem setPhase_stepReg (v : Word) : (s.setPhase v).stepReg = s.stepReg := rfl
@[simp] theorem setPhase_pctl (v : Word) : (s.setPhase v).pctl = s.pctl := rfl
@[simp] theorem setPhase_vctl (v : Word) : (s.setPhase v).vctl = s.vctl := rfl
@[simp] theorem setPhase_capp (v : Word) : (s.setPhase v).capp = s.capp := rfl
@[simp] theorem setPhase_capv (v : Word) : (s.setPhase v).capv = s.capv := rfl
@[simp] theorem setPhase_sample (v : Word) : (s.setPhase v).sample = s.sample := rfl
@[simp] theorem setPhase_mem (v : Word) : (s.setPhase v).mem = s.mem := rfl
@[simp] theorem setPhase_pending (v : Word) : (s.setPhase v).pending = s.pending := rfl
@[simp] theorem setPhase_resp (v : Word) : (s.setPhase v).resp = s.resp := rfl
@[simp] theorem setPhase_emitted (v : Word) : (s.setPhase v).emitted = s.emitted := rfl

@[simp] theorem setAmp_mute (v : BitVec 30) : (s.setAmp v).mute = s.mute := rfl
@[simp] theorem setAmp_div2 (v : BitVec 30) : (s.setAmp v).div2 = s.div2 := rfl
@[simp] theorem setAmp_shapeEn (v : BitVec 30) : (s.setAmp v).shapeEn = s.shapeEn := rfl
@[simp] theorem setAmp_wlen (v : BitVec 30) : (s.setAmp v).wlen = s.wlen := rfl
@[simp] theorem setAmp_divph (v : BitVec 30) : (s.setAmp v).divph = s.divph := rfl
@[simp] theorem setAmp_pofs (v : BitVec 30) : (s.setAmp v).pofs = s.pofs := rfl
@[simp] theorem setAmp_vofs (v : BitVec 30) : (s.setAmp v).vofs = s.vofs := rfl
@[simp] theorem setAmp_fpitch (v : BitVec 30) : (s.setAmp v).fpitch = s.fpitch := rfl
@[simp] theorem setAmp_fvol (v : BitVec 30) : (s.setAmp v).fvol = s.fvol := rfl
@[simp] theorem setAmp_phase (v : BitVec 30) : (s.setAmp v).phase = s.phase := rfl
@[simp] theorem setAmp_amp (v : BitVec 30) : (s.setAmp v).amp = v := rfl
@[simp] theorem setAmp_stepReg (v : BitVec 30) : (s.setAmp v).stepReg = s.stepReg := rfl
@[simp] theorem setAmp_pctl (v : BitVec 30) : (s.setAmp v).pctl = s.pctl := rfl
@[simp] theorem setAmp_vctl (v : BitVec 30) : (s.setAmp v).vctl = s.vctl := rfl
@[simp] theorem setAmp_capp (v : BitVec 30) : (s.setAmp v).capp = s.capp := rfl
@[simp] theorem setAmp_capv (v : BitVec 30) : (s.setAmp v).capv = s.capv := rfl
@[simp] theorem setAmp_sample (v : BitVec 30) : (s.setAmp v).sample = s.sample := rfl
@[simp] theorem setAmp_mem (v : BitVec 30) : (s.setAmp v).mem = s.mem := rfl
@[simp] theorem setAmp_pending (v : BitVec 30) : (s.setAmp v).pending = s.pending := rfl
@[simp] theorem setAmp_resp (v : BitVec 30) : (s.setAmp v).resp = s.resp := rfl
@[simp] theorem setAmp_emitted (v : BitVec 30) : (s.setAmp v).emitted = s.emitted := rfl

@[simp] theorem setEntry_mute (t : TableName) (i : Nat) (v : Int) : (s.setEntry t i v).mute = s.mute := rfl
@[simp] theorem setEntry_div2 (t : TableName) (i : Nat) (v : Int) : (s.setEntry t i v).div2 = s.div2 := rfl
@[simp] theorem setEntry_shapeEn (t : TableName) (i : Nat) (v : Int) : (s.setEntry t i v).shapeEn = s.shapeEn := rfl
@[simp] theorem setEntry_wlen (t : TableName) (i : Nat) (v : Int) : (s.setEntry t i v).wlen = s.wlen := rfl
@[simp] theorem setEntry_divph (t : TableName) (i : Nat) (v : Int) : (s.setEntry t i v).divph = s.divph := rfl
@[simp] theorem setEntry_pofs (t : TableName) (i : Nat) (v : Int) : (s.setEntry t i v).pofs = s.pofs := rfl
@[simp] theorem setEntry_vofs (t : TableName) (i : Nat) (v : Int) : (s.setEntry t i v).vofs = s.vofs := rfl
@[simp] theorem setEntry_fpitch (t : TableName) (i : Nat) (v : Int) : (s.setEntry t i v).fpitch = s.fpitch := rfl
@[simp] theorem setEntry_fvol (t : TableName) (i : Nat) (v : Int) : (s.setEntry t i v).fvol = s.fvol := rfl
@[simp] theorem setEntry_phase (t : TableName) (i : Nat) (v : Int) : (s.setEntry t i v).phase = s.phase := rfl
@[simp] theorem setEntry_amp (t : TableName) (i : Nat) (v : Int) : (s.setEntry t i v).amp = s.amp := rfl
@[simp] theorem setEntry_stepReg (t : TableName) (i : Nat) (v : Int) : (s.setEntry t i v).stepReg = s.stepReg := rfl
@[simp] theorem setEntry_pctl (t : TableName) (i : Nat) (v : Int) : (s.setEntry t i v).pctl = s.pctl := rfl
@[simp] theorem setEntry_vctl (t : TableName) (i : Nat) (v : Int) : (s.setEntry t i v).vctl = s.vctl := rfl
@[simp] theorem setEntry_capp (t : TableName) (i : Nat) (v : Int) : (s.setEntry t i v).capp = s.capp := rfl
@[simp] theorem setEntry_capv (t : TableName) (i : Nat) (v : Int) : (s.setEntry t i v).capv = s.capv := rfl
@[simp] theorem setEntry_sample (t : TableName) (i : Nat) (v : Int) : (s.setEntry t i v).sample = s.sample := rfl
@[simp] theorem setEntry_mem (t : TableName) (i : Nat) (v : Int) : (s.setEntry t i v).mem = memWrite s.mem t i v := rfl
@[simp] theorem setEntry_pending (t : TableName) (i : Nat) (v : Int) : (s.setEntry t i v).pending = s.pending := rfl
@[simp] theorem setEntry_resp (t : TableName) (i : Nat) (v : Int) : (s.setEntry t i v).resp = s.resp := rfl
@[simp] theorem setEntry_emitted (t : TableName) (i : Nat) (v : Int) : (s.setEntry t i v).emitted = s.emitted := rfl

@[simp] theorem setStep_mute (v : Word) : (s.setStep v).mute = s.mute := rfl
@[simp] theorem setStep_div2 (v : Word) : (s.setStep v).div2 = s.div2 := rfl
@[simp] theorem setStep_shapeEn (v : Word) : (s.setStep v).shapeEn = s.shapeEn := rfl
@[simp] theorem setStep_wlen (v : Word) : (s.setStep v).wlen = s.wlen := rfl
@[simp] theorem setStep_divph (v : Word) : (s.setStep v).divph = s.divph := rfl
@[simp] theorem setStep_pofs (v : Word) : (s.setStep v).pofs = s.pofs := rfl
@[simp] theorem setStep_vofs (v : Word) : (s.setStep v).vofs = s.vofs := rfl
@[simp] theorem setStep_fpitch (v : Word) : (s.setStep v).fpitch = s.fpitch := rfl
@[simp] theorem setStep_fvol (v : Word) : (s.setStep v).fvol = s.fvol := rfl
@[simp] theorem setStep_phase (v : Word) : (s.setStep v).phase = s.phase := rfl
@[simp] theorem setStep_amp (v : Word) : (s.setStep v).amp = s.amp := rfl
@[simp] theorem setStep_stepReg (v : Word) : (s.setStep v).stepReg = v := rfl
@[simp] theorem setStep_pctl (v : Word) : (s.setStep v).pctl = s.pctl := rfl
@[simp] theorem setStep_vctl (v : Word) : (s.setStep v).vctl = s.vctl := rfl
@[simp] theorem setStep_capp (v : Word) : (s.setStep v).capp = s.capp := rfl
@[simp] theorem setStep_capv (v : Word) : (s.setStep v).capv = s.capv := rfl
@[simp] theorem setStep_sample (v : Word) : (s.setStep v).sample = s.sample := rfl
@[simp] theorem setStep_mem (v : Word) : (s.setStep v).mem = s.mem := rfl
@[simp] theorem setStep_pending (v : Word) : (s.setStep v).pending = s.pending := rfl
@[simp] theorem setStep_resp (v : Word) : (s.setStep v).resp = s.resp := rfl
@[simp] theorem setStep_emitted (v : Word) : (s.setStep v).emitted = s.emitted := rfl

@[simp] theorem deliver_mute (v : Sample) : (s.deliver v).mute = s.mute := rfl
@[simp] theorem deliver_div2 (v : Sample) : (s.deliver v).div2 = s.div2 := rfl
@[simp] theorem deliver_shapeEn (v : Sample) : (s.deliver v).shapeEn = s.shapeEn := rfl
@[simp] theorem deliver_wlen (v : Sample) : (s.deliver v).wlen = s.wlen := rfl
@[simp] theorem deliver_divph (v : Sample) : (s.deliver v).divph = s.divph := rfl
@[simp] theorem deliver_pofs (v : Sample) : (s.deliver v).pofs = s.pofs := rfl
@[simp] theorem deliver_vofs (v : Sample) : (s.deliver v).vofs = s.vofs := rfl
@[simp] theorem deliver_fpitch (v : Sample) : (s.deliver v).fpitch = s.fpitch := rfl
@[simp] theorem deliver_fvol (v : Sample) : (s.deliver v).fvol = s.fvol := rfl
@[simp] theorem deliver_phase (v : Sample) : (s.deliver v).phase = s.phase := rfl
@[simp] theorem deliver_amp (v : Sample) : (s.deliver v).amp = s.amp := rfl
@[simp] theorem deliver_stepReg (v : Sample) : (s.deliver v).stepReg = s.stepReg := rfl
@[simp] theorem deliver_pctl (v : Sample) : (s.deliver v).pctl = s.pctl := rfl
@[simp] theorem deliver_vctl (v : Sample) : (s.deliver v).vctl = s.vctl := rfl
@[simp] theorem deliver_capp (v : Sample) : (s.deliver v).capp = s.capp := rfl
@[simp] theorem deliver_capv (v : Sample) : (s.deliver v).capv = s.capv := rfl
@[simp] theorem deliver_sample (v : Sample) : (s.deliver v).sample = v := rfl
@[simp] theorem deliver_mem (v : Sample) : (s.deliver v).mem = s.mem := rfl
@[simp] theorem deliver_pending (v : Sample) : (s.deliver v).pending = s.pending := rfl
@[simp] theorem deliver_resp (v : Sample) : (s.deliver v).resp = s.resp := rfl
@[simp] theorem deliver_emitted (v : Sample) : (s.deliver v).emitted = some v := rfl

@[simp] theorem setDivph_mute (v : Bool) : (s.setDivph v).mute = s.mute := rfl
@[simp] theorem setDivph_div2 (v : Bool) : (s.setDivph v).div2 = s.div2 := rfl
@[simp] theorem setDivph_shapeEn (v : Bool) : (s.setDivph v).shapeEn = s.shapeEn := rfl
@[simp] theorem setDivph_wlen (v : Bool) : (s.setDivph v).wlen = s.wlen := rfl
@[simp] theorem setDivph_divph (v : Bool) : (s.setDivph v).divph = v := rfl
@[simp] theorem setDivph_pofs (v : Bool) : (s.setDivph v).pofs = s.pofs := rfl
@[simp] theorem setDivph_vofs (v : Bool) : (s.setDivph v).vofs = s.vofs := rfl
@[simp] theorem setDivph_fpitch (v : Bool) : (s.setDivph v).fpitch = s.fpitch := rfl
@[simp] theorem setDivph_fvol (v : Bool) : (s.setDivph v).fvol = s.fvol := rfl
@[simp] theorem setDivph_phase (v : Bool) : (s.setDivph v).phase = s.phase := rfl
@[simp] theorem setDivph_amp (v : Bool) : (s.setDivph v).amp = s.amp := rfl
@[simp] theorem setDivph_stepReg (v : Bool) : (s.setDivph v).stepReg = s.stepReg := rfl
@[simp] theorem setDivph_pctl (v : Bool) : (s.setDivph v).pctl = s.pctl := rfl
@[simp] theorem setDivph_vctl (v : Bool) : (s.setDivph v).vctl = s.vctl := rfl
@[simp] theorem setDivph_capp (v : Bool) : (s.setDivph v).capp = s.capp := rfl
@[simp] theorem setDivph_capv (v : Bool) : (s.setDivph v).capv = s.capv := rfl
@[simp] theorem setDivph_sample (v : Bool) : (s.setDivph v).sample = s.sample := rfl
@[simp] theorem setDivph_mem (v : Bool) : (s.setDivph v).mem = s.mem := rfl
@[simp] theorem setDivph_pending (v : Bool) : (s.setDivph v).pending = s.pending := rfl
@[simp] theorem setDivph_resp (v : Bool) : (s.setDivph v).resp = s.resp := rfl
@[simp] theorem setDivph_emitted (v : Bool) : (s.setDivph v).emitted = s.emitted := rfl

@[simp] theorem setPitchChannel_mute (c : Word × Capture) : (s.setPitchChannel c).mute = s.mute := rfl
@[simp] theorem setPitchChannel_div2 (c : Word × Capture) : (s.setPitchChannel c).div2 = s.div2 := rfl
@[simp] theorem setPitchChannel_shapeEn (c : Word × Capture) : (s.setPitchChannel c).shapeEn = s.shapeEn := rfl
@[simp] theorem setPitchChannel_wlen (c : Word × Capture) : (s.setPitchChannel c).wlen = s.wlen := rfl
@[simp] theorem setPitchChannel_divph (c : Word × Capture) : (s.setPitchChannel c).divph = s.divph := rfl
@[simp] theorem setPitchChannel_pofs (c : Word × Capture) : (s.setPitchChannel c).pofs = s.pofs := rfl
@[simp] theorem setPitchChannel_vofs (c : Word × Capture) : (s.setPitchChannel c).vofs = s.vofs := rfl
@[simp] theorem setPitchChannel_fpitch (c : Word × Capture) : (s.setPitchChannel c).fpitch = c.1 := rfl
@[simp] theorem setPitchChannel_fvol (c : Word × Capture) : (s.setPitchChannel c).fvol = s.fvol := rfl
@[simp] theorem setPitchChannel_phase (c : Word × Capture) : (s.setPitchChannel c).phase = s.phase := rfl
@[simp] theorem setPitchChannel_amp (c : Word × Capture) : (s.setPitchChannel c).amp = s.amp := rfl
@[simp] theorem setPitchChannel_stepReg (c : Word × Capture) : (s.setPitchChannel c).stepReg = s.stepReg := rfl
@[simp] theorem setPitchChannel_pctl (c : Word × Capture) : (s.setPitchChannel c).pctl = s.pctl := rfl
@[simp] theorem setPitchChannel_vctl (c : Word × Capture) : (s.setPitchChannel c).vctl = s.vctl := rfl
@[simp] theorem setPitchChannel_capp (c : Word × Capture) : (s.setPitchChannel c).capp = c.2 := rfl
@[simp] theorem setPitchChannel_capv (c : Word × Capture) : (s.setPitchChannel c).capv = s.capv := rfl
@[simp] theorem setPitchChannel_sample (c : Word × Capture) : (s.setPitchChannel c).sample = s.sample := rfl
@[simp] theorem setPitchChannel_mem (c : Word × Capture) : (s.setPitchChannel c).mem = s.mem := rfl
@[simp] theorem setPitchChannel_pending (c : Word × Capture) : (s.setPitchChannel c).pending = s.pending := rfl
@[simp] theorem setPitchChannel_resp (c : Word × Capture) : (s.setPitchChannel c).resp = s.resp := rfl
@[simp] theorem setPitchChannel_emitted (c : Word × Capture) : (s.setPitchChannel c).emitted = s.emitted := rfl

@[simp] theorem setVolChannel_mute (c : Word × Capture) : (s.setVolChannel c).mute = s.mute := rfl
@[simp] theorem setVolChannel_div2 (c : Word × Capture) : (s.setVolChannel c).div2 = s.div2 := rfl
@[simp] theorem setVolChannel_shapeEn (c : Word × Capture) : (s.setVolChannel c).shapeEn = s.shapeEn := rfl
@[simp] theorem setVolChannel_wlen (c : Word × Capture) : (s.setVolChannel c).wlen = s.wlen := rfl
@[simp] theorem setVolChannel_divph (c : Word × Capture) : (s.setVolChannel c).divph = s.divph := rfl
@[simp] theorem setVolChannel_pofs (c : Word × Capture) : (s.setVolChannel c).pofs = s.pofs := rfl
@[simp] theorem setVolChannel_vofs (c : Word × Capture) : (s.setVolChannel c).vofs = s.vofs := rfl
@[simp] theorem setVolChannel_fpitch (c : Word × Capture) : (s.setVolChannel c).fpitch = s.fpitch := rfl
@[simp] theorem setVolChannel_fvol (c : Word × Capture) : (s.setVolChannel c).fvol = c.1 := rfl
@[simp] theorem setVolChannel_phase (c : Word × Capture) : (s.setVolChannel c).phase = s.phase := rfl
@[simp] theorem setVolChannel_amp (c : Word × Capture) : (s.setVolChannel c).amp = s.amp := rfl
@[simp] theorem setVolChannel_stepReg (c : Word × Capture) : (s.setVolChannel c).stepReg = s.stepReg := rfl
@[simp] theorem setVolChannel_pctl (c : Word × Capture) : (s.setVolChannel c).pctl = s.pctl := rfl
@[simp] theorem setVolChannel_vctl (c : Word × Capture) : (s.setVolChannel c).vctl = s.vctl := rfl
@[simp] theorem setVolChannel_capp (c : Word × Capture) : (s.setVolChannel c).capp = s.capp := rfl
@[simp] theorem setVolChannel_capv (c : Word × Capture) : (s.setVolChannel c).capv = c.2 := rfl
@[simp] theorem setVolChannel_sample (c : Word × Capture) : (s.setVolChannel c).sample = s.sample := rfl
@[simp] theorem setVolChannel_mem (c : Word × Capture) : (s.setVolChannel c).mem = s.mem := rfl
@[simp] theorem setVolChannel_pending (c : Word × Capture) : (s.setVolChannel c).pending = s.pending := rfl
@[simp] theorem setVolChannel_resp (c : Word × Capture) : (s.setVolChannel c).resp = s.resp := rfl
@[simp] theorem setVolChannel_emitted (c : Word × Capture) : (s.setVolChannel c).emitted = s.emitted := rfl

@[simp] theorem setPctl_mute (v : Word) : (s.setPctl v).mute = s.mute := rfl
@[simp] theorem setPctl_div2 (v : Word) : (s.setPctl v).div2 = s.div2 := rfl
@[simp] theorem setPctl_shapeEn (v : Word) : (s.setPctl v).shapeEn = s.shapeEn := rfl
@[simp] theorem setPctl_wlen (v : Word) : (s.setPctl v).wlen = s.wlen := rfl
@[simp] theorem setPctl_divph (v : Word) : (s.setPctl v).divph = s.divph := rfl
@[simp] theorem setPctl_pofs (v : Word) : (s.setPctl v).pofs = s.pofs := rfl
@[simp] theorem setPctl_vofs (v : Word) : (s.setPctl v).vofs = s.vofs := rfl
@[simp] theorem setPctl_fpitch (v : Word) : (s.setPctl v).fpitch = s.fpitch := rfl
@[simp] theorem setPctl_fvol (v : Word) : (s.setPctl v).fvol = s.fvol := rfl
@[simp] theorem setPctl_phase (v : Word) : (s.setPctl v).phase = s.phase := rfl
@[simp] theorem setPctl_amp (v : Word) : (s.setPctl v).amp = s.amp := rfl
@[simp] theorem setPctl_stepReg (v : Word) : (s.setPctl v).stepReg = s.stepReg := rfl
@[simp] theorem setPctl_pctl (v : Word) : (s.setPctl v).pctl = v := rfl
@[simp] theorem setPctl_vctl (v : Word) : (s.setPctl v).vctl = s.vctl := rfl
@[simp] theorem setPctl_capp (v : Word) : (s.setPctl v).capp = s.capp := rfl
@[simp] theorem setPctl_capv (v : Word) : (s.setPctl v).capv = s.capv := rfl
@[simp] theorem setPctl_sample (v : Word) : (s.setPctl v).sample = s.sample := rfl
@[simp] theorem setPctl_mem (v : Word) : (s.setPctl v).mem = s.mem := rfl
@[simp] theorem setPctl_pending (v : Word) : (s.setPctl v).pending = s.pending := rfl
@[simp] theorem setPctl_resp (v : Word) : (s.setPctl v).resp = s.resp := rfl
@[simp] theorem setPctl_emitted (v : Word) : (s.setPctl v).emitted = s.emitted := rfl

@[simp] theorem setVctl_mute (v : BitVec 16) : (s.setVctl v).mute = s.mute := rfl
@[simp] theorem setVctl_div2 (v : BitVec 16) : (s.setVctl v).div2 = s.div2 := rfl
@[simp] theorem setVctl_shapeEn (v : BitVec 16) : (s.setVctl v).shapeEn = s.shapeEn := rfl
@[simp] theorem setVctl_wlen (v : BitVec 16) : (s.setVctl v).wlen = s.wlen := rfl
@[simp] theorem setVctl_divph (v : BitVec 16) : (s.setVctl v).divph = s.divph := rfl
@[simp] theorem setVctl_pofs (v : BitVec 16) : (s.setVctl v).pofs = s.pofs := rfl
@[simp] theorem setVctl_vofs (v : BitVec 16) : (s.setVctl v).vofs = s.vofs := rfl
@[simp] theorem setVctl_fpitch (v : BitVec 16) : (s.setVctl v).fpitch = s.fpitch := rfl
@[simp] theorem setVctl_fvol (v : BitVec 16) : (s.setVctl v).fvol = s.fvol := rfl
@[simp] theorem setVctl_phase (v : BitVec 16) : (s.setVctl v).phase = s.phase := rfl
@[simp] theorem setVctl_amp (v : BitVec 16) : (s.setVctl v).amp = s.amp := rfl
@[simp] theorem setVctl_stepReg (v : BitVec 16) : (s.setVctl v).stepReg = s.stepReg := rfl
@[simp] theorem setVctl_pctl (v : BitVec 16) : (s.setVctl v).pctl = s.pctl := rfl
@[simp] theorem setVctl_vctl (v : BitVec 16) : (s.setVctl v).vctl = v := rfl
@[simp] theorem setVctl_capp (v : BitVec 16) : (s.setVctl v).capp = s.capp := rfl
@[simp] theorem setVctl_capv (v : BitVec 16) : (s.setVctl v).capv = s.capv := rfl
@[simp] theorem setVctl_sample (v : BitVec 16) : (s.setVctl v).sample = s.sample := rfl
@[simp] theorem setVctl_mem (v : BitVec 16) : (s.setVctl v).mem = s.mem := rfl
@[simp] theorem setVctl_pending (v : BitVec 16) : (s.setVctl v).pending = s.pending := rfl
@[simp] theorem setVctl_resp (v : BitVec 16) : (s.setVctl v).resp = s.resp := rfl
@[simp] theorem setVctl_emitted (v : BitVec 16) : (s.setVctl v).emitted = s.emitted := rfl

@[simp] theorem popEvent_mute : (s.popEvent).mute = s.mute := rfl
@[simp] theorem popEvent_div2 : (s.popEvent).div2 = s.div2 := rfl
@[simp] theorem popEvent_shapeEn : (s.popEvent).shapeEn = s.shapeEn := rfl
@[simp] theorem popEvent_wlen : (s.popEvent).wlen = s.wlen := rfl
@[simp] theorem popEvent_divph : (s.popEvent).divph = s.divph := rfl
@[simp] theorem popEvent_pofs : (s.popEvent).pofs = s.pofs := rfl
@[simp] theorem popEvent_vofs : (s.popEvent).vofs = s.vofs := rfl
@[simp] theorem popEvent_fpitch : (s.popEvent).fpitch = s.fpitch := rfl
@[simp] theorem popEvent_fvol : (s.popEvent).fvol = s.fvol := rfl
@[simp] theorem popEvent_phase : (s.popEvent).phase = s.phase := rfl
@[simp] theorem popEvent_amp : (s.popEvent).amp = s.amp := rfl
@[simp] theorem popEvent_stepReg : (s.popEvent).stepReg = s.stepReg := rfl
@[simp] theorem popEvent_pctl : (s.popEvent).pctl = s.pctl := rfl
@[simp] theorem popEvent_vctl : (s.popEvent).vctl = s.vctl := rfl
@[simp] theorem popEvent_capp : (s.popEvent).capp = s.capp := rfl
@[simp] theorem popEvent_capv : (s.popEvent).capv = s.capv := rfl
@[simp] theorem popEvent_sample : (s.popEvent).sample = s.sample := rfl
@[simp] theorem popEvent_mem : (s.popEvent).mem = s.mem := rfl
@[simp] theorem popEvent_pending : (s.popEvent).pending = s.pending.tail := rfl
@[simp] theorem popEvent_resp : (s.popEvent).resp = s.resp := rfl
@[simp] theorem popEvent_emitted : (s.popEvent).emitted = s.emitted := rfl

@[simp] theorem pushEvent_mute (w : EventWord) : (s.pushEvent w).mute = s.mute := rfl
@[simp] theorem pushEvent_div2 (w : EventWord) : (s.pushEvent w).div2 = s.div2 := rfl
@[simp] theorem pushEvent_shapeEn (w : EventWord) : (s.pushEvent w).shapeEn = s.shapeEn := rfl
@[simp] theorem pushEvent_wlen (w : EventWord) : (s.pushEvent w).wlen = s.wlen := rfl
@[simp] theorem pushEvent_divph (w : EventWord) : (s.pushEvent w).divph = s.divph := rfl
@[simp] theorem pushEvent_pofs (w : EventWord) : (s.pushEvent w).pofs = s.pofs := rfl
@[simp] theorem pushEvent_vofs (w : EventWord) : (s.pushEvent w).vofs = s.vofs := rfl
@[simp] theorem pushEvent_fpitch (w : EventWord) : (s.pushEvent w).fpitch = s.fpitch := rfl
@[simp] theorem pushEvent_fvol (w : EventWord) : (s.pushEvent w).fvol = s.fvol := rfl
@[simp] theorem pushEvent_phase (w : EventWord) : (s.pushEvent w).phase = s.phase := rfl
@[simp] theorem pushEvent_amp (w : EventWord) : (s.pushEvent w).amp = s.amp := rfl
@[simp] theorem pushEvent_stepReg (w : EventWord) : (s.pushEvent w).stepReg = s.stepReg := rfl
@[simp] theorem pushEvent_pctl (w : EventWord) : (s.pushEvent w).pctl = s.pctl := rfl
@[simp] theorem pushEvent_vctl (w : EventWord) : (s.pushEvent w).vctl = s.vctl := rfl
@[simp] theorem pushEvent_capp (w : EventWord) : (s.pushEvent w).capp = s.capp := rfl
@[simp] theorem pushEvent_capv (w : EventWord) : (s.pushEvent w).capv = s.capv := rfl
@[simp] theorem pushEvent_sample (w : EventWord) : (s.pushEvent w).sample = s.sample := rfl
@[simp] theorem pushEvent_mem (w : EventWord) : (s.pushEvent w).mem = s.mem := rfl
@[simp] theorem pushEvent_pending (w : EventWord) : (s.pushEvent w).pending = w :: s.pending := rfl
@[simp] theorem pushEvent_resp (w : EventWord) : (s.pushEvent w).resp = s.resp := rfl
@[simp] theorem pushEvent_emitted (w : EventWord) : (s.pushEvent w).emitted = s.emitted := rfl

@[simp] theorem resetRegisters_mute : (s.resetRegisters).mute = true := rfl
@[simp] theorem resetRegisters_div2 : (s.resetRegisters).div2 = false := rfl
@[simp] theorem resetRegisters_shapeEn : (s.resetRegisters).shapeEn = false := rfl
@[simp] theorem resetRegisters_wlen : (s.resetRegisters).wlen = 0#2 := rfl
@[simp] theorem resetRegisters_divph : (s.resetRegisters).divph = false := rfl
@[simp] theorem resetRegisters_pofs : (s.resetRegisters).pofs = 0#32 := rfl
@[simp] theorem resetRegisters_vofs : (s.resetRegisters).vofs = 0#32 := rfl
@[simp] theorem resetRegisters_fpitch : (s.resetRegisters).fpitch = 0#32 := rfl
@[simp] theorem resetRegisters_fvol : (s.resetRegisters).fvol = 0#32 := rfl
@[simp] theorem resetRegisters_phase : (s.resetRegisters).phase = 0#32 := rfl
@[simp] theorem resetRegisters_amp : (s.resetRegisters).amp = 0#30 := rfl
@[simp] theorem resetRegisters_stepReg : (s.resetRegisters).stepReg = 0#32 := rfl
@[simp] theorem resetRegisters_pctl : (s.resetRegisters).pctl = 1#32 := rfl
@[simp] theorem resetRegisters_vctl : (s.resetRegisters).vctl = 1#16 := rfl
@[simp] theorem resetRegisters_capp : (s.resetRegisters).capp = 0#16 := rfl
@[simp] theorem resetRegisters_capv : (s.resetRegisters).capv = 0#16 := rfl
@[simp] theorem resetRegisters_sample : (s.resetRegisters).sample = 0#16 := rfl
@[simp] theorem resetRegisters_mem : (s.resetRegisters).mem = s.mem := rfl
@[simp] theorem resetRegisters_pending : (s.resetRegisters).pending = s.pending := rfl
@[simp] theorem resetRegisters_resp : (s.resetRegisters).resp = s.resp := rfl
@[simp] theorem resetRegisters_emitted : (s.resetRegisters).emitted = s.emitted := rfl

end Sys2Proof.Laws
end

