-- ==== Sys2Proof/Laws/Tick.lean ====
section
/-! SUPPORT. What each part of a TICK leaves in each field, and the whole event: these say once what TICK can do, so that
no proof unfolds its parts again. -/

namespace Sys2Proof.Laws

open Sys2Proof.Machine

/-- Both results of one channel's filter step (42_period_filter R179). -/
@[simp] theorem filterStep_snd (p : Config.Params) (f : Word) (last cap : Capture) :
    (filterStep p f last cap).2 = cap := by unfold filterStep; split <;> rfl

theorem filterStep_fst (p : Config.Params) (f : Word) (last cap : Capture) :
    (filterStep p f last cap).1 =
      if period last cap = 0 then f else filterUpdate p f (filterTarget p (period last cap)) := by
  unfold filterStep; split <;> rfl

/-- The state part S leaves, on a render tick that is not muted. -/
theorem partS_unmuted (p : Config.Params) (s : State) (hr : renders s = true) (hm : s.mute = false) :
    partS p s = outputPart (ampPart p (advancePhase s)) := by simp [partS, pitchPart, hr, hm]

/-- The state part S leaves, on a muted render tick. -/
theorem partS_muted (p : Config.Params) (s : State) (hr : renders s = true) (hm : s.mute = true) :
    partS p s = outputPart (ampPart p s) := by simp [partS, pitchPart, hr, hm]

/-- Part S is skipped whole on a tick that is not a render tick. -/
theorem partS_skipped (p : Config.Params) (s : State) (hr : renders s = false) : partS p s = s := by
  simp [partS, hr]

/-- Part S does not look at the events still to come. -/
theorem partS_withPending (p : Config.Params) (s : State) (ws : List EventWord) :
    partS p { s with pending := ws } = { partS p s with pending := ws } := by
  show (if renders s = true then
      outputPart (ampPart p (if s.mute = true then { s with pending := ws } else advancePhase { s with pending := ws }))
      else { s with pending := ws }) = _
  unfold partS pitchPart
  split
  · split <;> rfl
  · rfl

section PartSFrame

variable (p : Config.Params) (s : State)

@[simp] theorem partS_mute : (partS p s).mute = s.mute := by
  unfold partS pitchPart; split <;> [split; skip] <;> rfl
@[simp] theorem partS_div2 : (partS p s).div2 = s.div2 := by
  unfold partS pitchPart; split <;> [split; skip] <;> rfl
@[simp] theorem partS_shapeEn : (partS p s).shapeEn = s.shapeEn := by
  unfold partS pitchPart; split <;> [split; skip] <;> rfl
@[simp] theorem partS_wlen : (partS p s).wlen = s.wlen := by
  unfold partS pitchPart; split <;> [split; skip] <;> rfl
@[simp] theorem partS_divph : (partS p s).divph = s.divph := by
  unfold partS pitchPart; split <;> [split; skip] <;> rfl
@[simp] theorem partS_pofs : (partS p s).pofs = s.pofs := by
  unfold partS pitchPart; split <;> [split; skip] <;> rfl
@[simp] theorem partS_vofs : (partS p s).vofs = s.vofs := by
  unfold partS pitchPart; split <;> [split; skip] <;> rfl
@[simp] theorem partS_fpitch : (partS p s).fpitch = s.fpitch := by
  unfold partS pitchPart; split <;> [split; skip] <;> rfl
@[simp] theorem partS_fvol : (partS p s).fvol = s.fvol := by
  unfold partS pitchPart; split <;> [split; skip] <;> rfl
@[simp] theorem partS_pctl : (partS p s).pctl = s.pctl := by
  unfold partS pitchPart; split <;> [split; skip] <;> rfl
@[simp] theorem partS_vctl : (partS p s).vctl = s.vctl := by
  unfold partS pitchPart; split <;> [split; skip] <;> rfl
@[simp] theorem partS_capp : (partS p s).capp = s.capp := by
  unfold partS pitchPart; split <;> [split; skip] <;> rfl
@[simp] theorem partS_capv : (partS p s).capv = s.capv := by
  unfold partS pitchPart; split <;> [split; skip] <;> rfl
@[simp] theorem partS_mem : (partS p s).mem = s.mem := by
  unfold partS pitchPart; split <;> [split; skip] <;> rfl
@[simp] theorem partS_pending : (partS p s).pending = s.pending := by
  unfold partS pitchPart; split <;> [split; skip] <;> rfl
@[simp] theorem partS_resp : (partS p s).resp = s.resp := by
  unfold partS pitchPart; split <;> [split; skip] <;> rfl

end PartSFrame

section TickFields

variable (p : Config.Params) (capP capV : Capture) (s : State)

@[simp] theorem tickWith_mute : (tickWith p capP capV s).mute = s.mute := by
  simp [tickWith, partF, controlPart, filterPart, partD]
@[simp] theorem tickWith_div2 : (tickWith p capP capV s).div2 = s.div2 := by
  simp [tickWith, partF, controlPart, filterPart, partD]
@[simp] theorem tickWith_shapeEn : (tickWith p capP capV s).shapeEn = s.shapeEn := by
  simp [tickWith, partF, controlPart, filterPart, partD]
@[simp] theorem tickWith_wlen : (tickWith p capP capV s).wlen = s.wlen := by
  simp [tickWith, partF, controlPart, filterPart, partD]
@[simp] theorem tickWith_divph : (tickWith p capP capV s).divph = nextDivph s := by
  simp [tickWith, partF, controlPart, filterPart, partD, nextDivph]
@[simp] theorem tickWith_pofs : (tickWith p capP capV s).pofs = s.pofs := by
  simp [tickWith, partF, controlPart, filterPart, partD]
@[simp] theorem tickWith_vofs : (tickWith p capP capV s).vofs = s.vofs := by
  simp [tickWith, partF, controlPart, filterPart, partD]
@[simp] theorem tickWith_fpitch :
    (tickWith p capP capV s).fpitch = (filterStep p s.fpitch s.capp capP).1 := by
  simp [tickWith, partF, controlPart, filterPart, partD]
@[simp] theorem tickWith_fvol :
    (tickWith p capP capV s).fvol = (filterStep p s.fvol s.capv capV).1 := by
  simp [tickWith, partF, controlPart, filterPart, partD]
@[simp] theorem tickWith_capp : (tickWith p capP capV s).capp = capP := by
  simp [tickWith, partF, controlPart, filterPart, partD]
@[simp] theorem tickWith_capv : (tickWith p capP capV s).capv = capV := by
  simp [tickWith, partF, controlPart, filterPart, partD]
@[simp] theorem tickWith_pctl :
    (tickWith p capP capV s).pctl = pitchControl p (filterStep p s.fpitch s.capp capP).1 s.pofs := by
  simp [tickWith, partF, controlPart, filterPart, partD]
@[simp] theorem tickWith_vctl :
    (tickWith p capP capV s).vctl = volControl p (filterStep p s.fvol s.capv capV).1 s.vofs := by
  simp [tickWith, partF, controlPart, filterPart, partD]
@[simp] theorem tickWith_mem : (tickWith p capP capV s).mem = s.mem := by
  simp [tickWith, partF, controlPart, filterPart, partD]
@[simp] theorem tickWith_pending : (tickWith p capP capV s).pending = s.pending := by
  simp [tickWith, partF, controlPart, filterPart, partD]
@[simp] theorem tickWith_resp : (tickWith p capP capV s).resp = none := by
  simp [tickWith, partF, controlPart, filterPart, partD]

/-- The fields of synthesis are those part S leaves. -/
theorem tickWith_synthesis :
    (tickWith p capP capV s).phase = (partS p s.silent).phase ∧
    (tickWith p capP capV s).amp = (partS p s.silent).amp ∧
    (tickWith p capP capV s).stepReg = (partS p s.silent).stepReg ∧
    (tickWith p capP capV s).sample = (partS p s.silent).sample ∧
    (tickWith p capP capV s).emitted = (partS p s.silent).emitted := by
  simp [tickWith, partF, controlPart, filterPart, partD]

/-- A TICK does not look at the events still to come. -/
theorem tickWith_withPending (ws : List EventWord) :
    tickWith p capP capV { s with pending := ws } = { tickWith p capP capV s with pending := ws } := by
  have h : State.silent { s with pending := ws } = { s.silent with pending := ws } := rfl
  unfold tickWith
  rw [h, partS_withPending]
  rfl

end TickFields

end Sys2Proof.Laws
end

