-- ==== Sys2Proof/Laws/Step.lean ====
section
/-! SUPPORT. What a step does, and how runs unfold. -/

namespace Sys2Proof.Laws

open Sys2Proof.Machine

/-- A step with an event pending performs the operation that event decodes to. -/
theorem step_cons (s : State) (w : EventWord) (rest : List EventWord) (h : s.pending = w :: rest) :
    step s = exec (decode w) { s with pending := rest } := by
  simp [step, fetchEvent, State.popEvent, h]

/-- The word of an idle port. -/
theorem decode_idle : decode 0#50 = .hnop := by decide

/-- A presented word is what the next step performs, on the state it was presented in. -/
theorem step_pushEvent (s : State) (w : EventWord) : step (s.pushEvent w) = exec (decode w) s := rfl

/-- A run whose first step completes goes on from the state it left (any machine behind the host's interface). -/
theorem core_run_succ (M : Host.Core) {s t : M.State} (n : Nat) (h : M.step s = .next t) : M.run (n + 1) s = M.run n t := by
  simp [Host.Core.run, h]

/-- The same for this machine. -/
theorem run_succ_of_step {s t : State} (n : Nat) (h : step s = .next t) :
    Host.Core.run Sys2Proof.core (n + 1) s = Host.Core.run Sys2Proof.core n t :=
  core_run_succ Sys2Proof.core n h

/-- What the three host responses answer. -/
theorem accept_eq (s : State) : accept s = .next (s.answer false 0#32) := rfl
theorem answerRead_eq (s : State) (v : Word) : answerRead s v = .next (s.answer false v) := rfl
theorem reject_eq (s : State) : reject s = .next (s.answer true 0#32) := rfl

/-- Every operation completes, in every state (60_exceptions R245). -/
theorem exec_completes (i : Instr) (s : State) : ∃ t : State, exec i s = .next t := by
  cases i <;> try exact ⟨_, rfl⟩
  simp only [exec, execWrCtrl]; split <;> exact ⟨_, rfl⟩

/-- No operation reads the port fields of the latest event. -/
theorem exec_withPorts (i : Instr) (s : State) (r : Option Response) (e : Option Sample) :
    exec i { s with resp := r, emitted := e } = exec i s := by
  cases i <;> rfl

end Sys2Proof.Laws
end

