-- ==== Sys2Proof/Laws/Synth.lean ====
section
/-! SUPPORT. What the filter, the lookups, the smoother and the synthesis operations compute, as exact integers with their
ranges, said once, so that no proof narrows a value again. -/

namespace Sys2Proof.Laws

open Sys2Proof.Machine

/-- The period as a number (42_period_filter R171). -/
theorem period_eq (last cap : Capture) : period last cap = (cap.toNat + 65536 - last.toNat) % 65536 := by
  unfold period; rw [BitVec.toNat_sub]; omega

theorem period_self (c : Capture) : period c c = 0 := by simp [period]

/-- The target is an s32 (42_period_filter R174). -/
theorem filterTarget_range (p : Config.Params) (per : Nat) :
    -2 ^ 31 ≤ filterTarget p per ∧ filterTarget p per ≤ 2 ^ 31 - 1 := clamp_bounds (by norm_num)

/-- An update toward an s32 target loses nothing (42_period_filter R175). -/
theorem filterUpdate_toInt (p : Config.Params) (f : Word) {tgt : Int} (h : -2 ^ 31 ≤ tgt ∧ tgt ≤ 2 ^ 31 - 1) :
    (filterUpdate p f tgt).toInt = f.toInt + tdiv (tgt - f.toInt) p.filtShift := by
  have h1 := add_tdiv_sub_between f.toInt tgt p.filtShift
  have h2 := toInt_bounds_32 f
  exact toInt_ofInt_32 (by omega)

/-- The pitch control value is the clamped difference (42_period_filter R177). -/
theorem pitchControl_toNat (p : Config.Params) (f ofs : Word) :
    ((pitchControl p f ofs).toNat : Int) = clamp ((f.toInt - ofs.toInt) * (p.pitchMul : Int)) 1 (2 ^ 32 - 1) := by
  have h := clamp_bounds (v := (f.toInt - ofs.toInt) * (p.pitchMul : Int)) (lo := 1) (hi := 2 ^ 32 - 1) (by norm_num)
  exact toNat_ofInt_of_mem (by omega) (by omega)

/-- The volume control value is the clamped quotient (42_period_filter R178). -/
theorem volControl_toNat (p : Config.Params) (f ofs : Word) :
    ((volControl p f ofs).toNat : Int) = clamp (tdiv (f.toInt - ofs.toInt) p.volNormShift) 1 65535 := by
  have h := clamp_bounds (v := tdiv (f.toInt - ofs.toInt) p.volNormShift) (lo := 1) (hi := 65535) (by norm_num)
  exact toNat_ofInt_of_mem (by omega) (by omega)

theorem keyFrac_lt (k : Nat) : keyFrac k < 2 ^ 17 := Nat.mod_lt _ (by norm_num)

/-- Interpolation stays inside every range that holds both entries (43_lookup R187). -/
theorem interp_range (m : Memory) (t : TableName) (idx frac fb : Nat) (lo hi : Int) (hf : frac < 2 ^ fb)
    (h : ∀ i : Nat, lo ≤ memRead m t i ∧ memRead m t i ≤ hi) :
    lo * 2 ^ fb ≤ interp m t idx frac fb ∧ interp m t idx frac fb ≤ hi * 2 ^ fb := by
  unfold interp
  have ha := h idx
  have hb := h (min (idx + 1) (tableSize t - 1))
  have hf' : (frac : Int) < 2 ^ fb := by exact_mod_cast hf
  have h0 : (0 : Int) ≤ frac := by omega
  generalize memRead m t idx = a at *
  generalize memRead m t (min (idx + 1) (tableSize t - 1)) = b at *
  generalize (frac : Int) = f at *
  generalize (2 : Int) ^ fb = q at *
  have e : a * q + (b - a) * f = a * (q - f) + b * f := by ring
  rw [e]
  constructor <;> nlinarith

/-- The step is the interpolated value rounded down (43_lookup R189). -/
theorem pitchStep_toNat (m : Memory) (v : Word) :
    ((pitchStep m v).toNat : Int) = lookupAcc m .ptab v.toNat / 2 ^ 17 := by
  have h := interp_range m .ptab (keyIdx (key v.toNat)) (keyFrac (key v.toNat)) 17 0 (2 ^ 32 - 1) (keyFrac_lt _)
    fun i => ⟨(memRead_ptab_range m i).1, by have := (memRead_ptab_range m i).2; omega⟩
  unfold pitchStep lookupAcc
  rw [toNat_ofInt_of_mem] <;> omega

/-- The amplitude target is in the range of `AMP` (43_lookup R190). -/
theorem ampTarget_range (m : Memory) (v : BitVec 16) : 0 ≤ ampTarget m v ∧ ampTarget m v ≤ Config.ampMax := by
  have h := interp_range m .vtab (keyIdx (key v.toNat)) (keyFrac (key v.toNat)) 17 0 1023 (keyFrac_lt _)
    (memRead_vtab_range m)
  unfold ampTarget lookupAcc Config.ampMax
  omega

/-- The smoother loses nothing toward a target in range, whatever the old value (43_lookup R191). -/
theorem smoothAmp_toNat (p : Config.Params) (amp : BitVec 30) {tgt : Int} (h : 0 ≤ tgt ∧ tgt ≤ Config.ampMax) :
    ((smoothAmp p amp tgt).toNat : Int) = amp.toNat + tdiv (tgt - amp.toNat) p.ampShift := by
  have h1 := add_tdiv_sub_between amp.toNat tgt p.ampShift
  have h2 := amp.isLt
  unfold Config.ampMax at h
  unfold smoothAmp
  rw [toNat_ofInt_of_mem] <;> omega

/-- The interpolated waveform value is at most 2^35 in magnitude (44_synthesis R204). -/
theorem waveInterp_range (m : Memory) (l : BitVec 2) (phase : Word) :
    -2 ^ 35 ≤ waveInterp m l phase ∧ waveInterp m l phase ≤ 2 ^ 35 := by
  unfold waveInterp
  have ha := memRead_wtab_range m (waveIdx0 l phase)
  have hb := memRead_wtab_range m (waveIdx1 l phase)
  have hf : phaseFrac phase < 2 ^ 20 := Nat.mod_lt _ (by norm_num)
  have hf' : (phaseFrac phase : Int) < 2 ^ 20 := by exact_mod_cast hf
  have h0 : (0 : Int) ≤ phaseFrac phase := by omega
  generalize memRead m .wtab (waveIdx0 l phase) = a at *
  generalize memRead m .wtab (waveIdx1 l phase) = b at *
  generalize (phaseFrac phase : Int) = f at *
  constructor <;> nlinarith

/-- Amplitude scaling by any `AMP` up to `m` keeps a waveform value within 2^35 · m / 2^50 (44_synthesis R206). -/
theorem scaleAmp_le (w : Int) (amp : BitVec 30) (m : Nat) (hw : -2 ^ 35 ≤ w ∧ w ≤ 2 ^ 35) (hm : amp.toNat ≤ m) :
    |scaleAmp w amp| ≤ 2 ^ 35 * m / 2 ^ 50 := by
  have hm' : (amp.toNat : Int) ≤ m := by exact_mod_cast hm
  have h0 : (0 : Int) ≤ amp.toNat := by omega
  unfold scaleAmp
  generalize (amp.toNat : Int) = a at *
  have h1 : w * a ≤ 2 ^ 35 * m := by nlinarith
  have h2 : -(2 ^ 35 * m) ≤ w * a := by nlinarith
  generalize w * a = x at *
  generalize (2 : Int) ^ 35 * m = b at *
  unfold tdiv
  split
  · rw [abs_of_nonneg (by omega)]; omega
  · rw [abs_of_nonpos (by omega)]; omega

/-- The shaper's result is an s16 (44_synthesis R207). -/
theorem shapeSample_range (m : Memory) (y : Int) : -32768 ≤ shapeSample m y ∧ shapeSample m y ≤ 32767 := by
  have h := interp_range m .stab ((y + 32768).toNat / 2 ^ 8 % 2 ^ 8) ((y + 32768).toNat % 2 ^ 8) 8 (-32768) 32767
    (Nat.mod_lt _ (by norm_num)) (memRead_stab_range m)
  unfold shapeSample tdiv
  split <;> omega

end Sys2Proof.Laws
end

