-- ==== Sys2Proof/Tests/Slice0.lean ====
section
/-! SUPPORT. Tests: the smoke test of WellFormed, one written-out word per operation, single steps with the numbers of
95_test_vectors, and for every statement with hypotheses a state and operands that meet them. Words and numbers come from
the spec; none was copied from the model's own answer. -/

namespace Sys2Proof.Tests

open Sys2Proof.Machine

/-! ### WellFormed -/

/-- A rejected access names a reserved address: the last address before each reserved range and the first after it are
refused (20_memory R66). -/
theorem test_wellFormed_refuses_mapped_write :
    [0x0000#14, 0x000D#14, 0x0800#14, 0x14FF#14, 0x2000#14, 0x2FFF#14].map (fun a => (Instr.wrRsvd a).wellFormed) = List.replicate 6 false := by decide

theorem test_wellFormed_refuses_mapped_read :
    [0x0000#14, 0x000D#14, 0x0800#14, 0x14FF#14, 0x2000#14, 0x2FFF#14].map (fun a => (Instr.rdRsvd a).wellFormed) = List.replicate 6 false := by decide

/-- The first and the last address of each reserved range. -/
theorem test_wellFormed_accepts_reserved :
    [0x000E#14, 0x07FF#14, 0x1500#14, 0x1FFF#14, 0x3000#14, 0x3FFF#14].map (fun a => (Instr.wrRsvd a).wellFormed && (Instr.rdRsvd a).wellFormed) =
      List.replicate 6 true := by decide

/-! ### Decoding: a written-out word for every operation (95_test_vectors 2.1 and programs; 30_encoding R85 to R96) -/

/-- `wr ctrl, 0x27`: port 00, op 01, address 0, data 0x27 = `WLEN` 2, `SHAPE_EN`, `DIV2`, `MUTE`. -/
theorem test_decode_wrCtrl : decode 0b00010000000000000000000000000000000000000000100111#50 = .wrCtrl true true true 2#2 := by
  decide

/-- `wr ctrl, 0xFFFFFFEF`: bit 3 and bits 31:6 are ignored. -/
theorem test_decode_wrCtrl_ignored_bits : decode 0x04000FFFFFFEF#50 = .wrCtrl true true true 2#2 := by decide

/-- `wr ctrl, 0x35`: `WLEN` = 3 is still a `WR.CTRL`. -/
theorem test_decode_wrCtrl_illegal_wlen : decode 0x0400000000035#50 = .wrCtrl true false true 3#2 := by decide

theorem test_decode_control_reads : decode 0x0800000000000#50 = .rdCtrl ∧ decode 0x0800100000000#50 = .rdStatus := by decide

theorem test_decode_register_writes :
    decode 0x04002FFFFFFFB#50 = .wrPofs 0xFFFFFFFB#32 ∧ decode 0x040037F8FEA12#50 = .wrVofs 0x7F8FEA12#32 ∧
    decode 0x040047FFFFFFF#50 = .wrFpitch 0x7FFFFFFF#32 ∧ decode 0x040057FFFFFFF#50 = .wrFvol 0x7FFFFFFF#32 ∧
    decode 0x040063FE80000#50 = .wrPhase 0x3FE80000#32 ∧ decode 0x040073FF00000#50 = .wrAmp 0x3FF00000#32 := by decide

theorem test_decode_register_reads :
    decode 0x0800200000000#50 = .rdPofs ∧ decode 0x0800300000000#50 = .rdVofs ∧ decode 0x0800400000000#50 = .rdFpitch ∧
    decode 0x0800500000000#50 = .rdFvol ∧ decode 0x0800612345678#50 = .rdPhase ∧ decode 0x0800700000000#50 = .rdAmp := by
  decide

theorem test_decode_observation_reads :
    decode 0x0800800000000#50 = .rdPctl ∧ decode 0x0800900000000#50 = .rdVctl ∧ decode 0x0800A00000000#50 = .rdCapp ∧
    decode 0x0800B00000000#50 = .rdCapv ∧ decode 0x0800C00000000#50 = .rdSample ∧ decode 0x0800D00000000#50 = .rdStep := by
  decide

theorem test_decode_readOnly_writes :
    decode 0x0400100000000#50 = .wrRoStatus ∧ decode 0x0400800000005#50 = .wrRoPctl ∧
    decode 0x0400900000000#50 = .wrRoVctl ∧ decode 0x0400A00000000#50 = .wrRoCapp ∧
    decode 0x0400B00000000#50 = .wrRoCapv ∧ decode 0x0400C00000000#50 = .wrRoSample ∧
    decode 0x0400D00000005#50 = .wrRoStep := by decide

theorem test_decode_table_writes :
    decode 0x04FFFFFFFFFFF#50 = .wrPtab 2047#11 0xFFFFFFFF#32 ∧ decode 0x053FF00000000#50 = .wrVtab 1023#10 0#32 ∧
    decode 0x054FF00008000#50 = .wrStab 255#8 0x8000#32 ∧ decode 0x06002FFFFC180#50 = .wrWtab 2#12 0xFFFFC180#32 := by
  decide

theorem test_decode_table_reads :
    decode 0x08FFF00000000#50 = .rdPtab 2047#11 ∧ decode 0x0900500000000#50 = .rdVtab 5#10 ∧
    decode 0x094FF00000000#50 = .rdStab 255#8 ∧ decode 0x0AFFF00000000#50 = .rdWtab 4095#12 := by decide

theorem test_decode_idle_and_reserved :
    decode 0x03FFFFFFFFFFF#50 = .hnop ∧ decode 0x0C00000000000#50 = .hrsv ∧
    decode 0x0550000000001#50 = .wrRsvd 0x1500#14 ∧ decode 0x0BFFF00000000#50 = .rdRsvd 0x3FFF#14 ∧
    decode 0x0800E00000000#50 = .rdRsvd 0x000E#14 ∧ decode 0x087FF00000000#50 = .rdRsvd 0x07FF#14 := by decide

/-- `tick 2100, 2300`; bits 47:32 ignored in the second word. -/
theorem test_decode_tick : decode 0x10000083408FC#50 = .tick 2100#16 2300#16 ∧
    decode 0x1ABCD00010002#50 = .tick 1#16 2#16 ∧ decode 0x10000FFFF0000#50 = .tick 65535#16 0#16 := by decide

theorem test_decode_reset_evrsv : decode 0x2000000000000#50 = .reset ∧ decode 0x2FFFFFFFFFFFF#50 = .reset ∧
    decode 0x3000000000000#50 = .evrsv := by decide

/-- A number above 50 bits is no event word. -/
theorem test_decodeNumber_rejects : decodeNumber (2 ^ 50) = .error .notAnEventWord ∧
    decodeNumber (2 ^ 50 - 1) = .ok .evrsv := by decide

/-- The table's numbering: 56 bits hold one event word. -/
theorem test_decodeTableWord : decodeTableWord 56 0x0800900000000 = some .rdVctl ∧
    decodeTableWord 56 0x10000083408FC = some (.tick 2100#16 2300#16) := by decide

/-- The assembler's words (30_encoding R100, R101; program C lines 10 to 13). -/
theorem test_assemble : assembleAll (pseudoCtrl true true false 0#2 ++ pseudoFiltrst ++ pseudoTicks 2 2100#16 2100#16 2300#16 2300#16) =
    some [0x0400000000003#50, 0x040047FFFFFFF#50, 0x040057FFFFFFF#50, 0x10000083408FC#50, 0x10000106811F8#50] := by decide

/-! ### Steps -/

/-- The state an outcome leaves. -/
def left : Result → State
  | .next t => t
  | .fault _ => State.reset
  | .refused _ => State.reset

/-- The state right after one operation from a state. -/
def after (i : Instr) (s : State) : State := left (exec i s)

/-- The response of an operation. -/
def answerOf (i : Instr) (s : State) : Option (Bool × Word) := (after i s).resp.map fun r => (r.err, r.rdata)

/-- 95_test_vectors 2.2: `wr ctrl, 0x35` is rejected and `CTRL` keeps its value; `wr ctrl, 0xFFFFFFEF` reads back 0x27. -/
theorem test_wrCtrl_rejects : answerOf (.wrCtrl true false true 3#2) State.reset = some (true, 0#32) ∧
    answerOf .rdCtrl (after (.wrCtrl true false true 3#2) State.reset) = some (false, 1#32) := by decide

theorem test_wrCtrl_readback : answerOf .rdCtrl (after (.wrCtrl true true true 2#2) State.reset) = some (false, 0x27#32) := by
  decide

/-- 2.2: `rd status`, `rd pctl`, `rd vctl` after reset. -/
theorem test_reads_after_reset : answerOf .rdStatus State.reset = some (false, 1#32) ∧
    answerOf .rdPctl State.reset = some (false, 1#32) ∧ answerOf .rdVctl State.reset = some (false, 1#32) := by decide

/-- 2.2: register write and read back; each pair of registers gets different values, so a swap shows. -/
theorem test_register_readback :
    answerOf .rdPofs (after (.wrVofs 7#32) (after (.wrPofs 0xFFFFFFFB#32) State.reset)) = some (false, 0xFFFFFFFB#32) ∧
    answerOf .rdVofs (after (.wrPofs 7#32) (after (.wrVofs 0x80000000#32) State.reset)) = some (false, 0x80000000#32) ∧
    answerOf .rdFpitch (after (.wrFvol 7#32) (after (.wrFpitch 0x7FFFFFFF#32) State.reset)) = some (false, 0x7FFFFFFF#32) ∧
    answerOf .rdFvol (after (.wrFpitch 7#32) (after (.wrFvol 3#32) State.reset)) = some (false, 3#32) ∧
    answerOf .rdPhase (after (.wrAmp 7#32) (after (.wrPhase 0xFFFFFFFF#32) State.reset)) = some (false, 0xFFFFFFFF#32) := by
  decide

/-- 2.2: `AMP` saturates at 0x3FF00000 and stores what is below as it is. -/
theorem test_wrAmp : answerOf .rdAmp (after (.wrAmp 0xFFFFFFFF#32) State.reset) = some (false, 0x3FF00000#32) ∧
    answerOf .rdAmp (after (.wrAmp 0x3FEFFFFF#32) State.reset) = some (false, 0x3FEFFFFF#32) := by decide

/-- 40_host_access R129 to R131: the captures of `tick 0x1234, 0x5678`; `SAMPLE` = −2 reads sign extended. -/
theorem test_observation_reads :
    answerOf .rdCapp (after (.tick 0x1234#16 0x5678#16) State.reset) = some (false, 0x1234#32) ∧
    answerOf .rdCapv (after (.tick 0x1234#16 0x5678#16) State.reset) = some (false, 0x5678#32) ∧
    answerOf .rdSample { State.reset with sample := 0xFFFE#16 } = some (false, 0xFFFFFFFE#32) ∧
    answerOf .rdStep { State.reset with stepReg := 0x80000#32 } = some (false, 0x80000#32) := by decide

/-- 2.2: table writes saturate by the entry's type. -/
theorem test_table_readback :
    answerOf (.rdVtab 5#10) (after (.wrVtab 5#10 5000#32) State.reset) = some (false, 0x3FF#32) ∧
    answerOf (.rdWtab 4095#12) (after (.wrWtab 4095#12 0x12345#32) State.reset) = some (false, 0x7FFF#32) ∧
    answerOf (.rdWtab 0#12) (after (.wrWtab 0#12 (BitVec.ofInt 32 (-40000))) State.reset) = some (false, 0xFFFF8000#32) ∧
    answerOf (.rdStab 255#8) (after (.wrStab 255#8 0x8000#32) State.reset) = some (false, 0x7FFF#32) ∧
    answerOf (.rdPtab 2047#11) (after (.wrPtab 2047#11 0xFFFFFFFF#32) State.reset) = some (false, 0xFFFFFFFF#32) := by decide

/-- 2.2: the rejected commands answer (1, 0) and change nothing; `hnop` answers (0, 0). -/
theorem test_rejected : ∀ i ∈ [Instr.hrsv, .wrRoStatus, .wrRoPctl, .wrRoVctl, .wrRoCapp, .wrRoCapv, .wrRoSample, .wrRoStep,
    .wrRsvd 0x1500#14, .rdRsvd 0x3FFF#14],
    answerOf i State.reset = some (true, 0#32) ∧ (after i State.reset).block = State.reset := by decide

theorem test_hnop_evrsv : answerOf .hnop State.reset = some (false, 0#32) ∧ answerOf .evrsv State.reset = none ∧
    (after .evrsv State.reset).block = State.reset := by decide

/-- 43_lookup R185, 2.3: keys. -/
theorem test_key : [1, 3, 129, 1000, 0x1000001, 0x12345678, 0xFFFFFFFF].map key =
    [0x0000000, 0x0C00000, 0x3810000, 0x4FA0000, 0xC000000, 0xE11A2B3, 0xFFFFFFF] := by decide

/-- 2.4: pitch lookup between 1000 and 500, and at the clamped last entry. -/
theorem test_pitch_lookup :
    pitchStep { ptab := [(448, 1000#32), (449, 500#32)], vtab := [], stab := [], wtab := [] } 129#32 = 750#32 ∧
    pitchStep { ptab := [(2046, 5#32), (2047, 0xFFFFFFFF#32)], vtab := [], stab := [], wtab := [] } 0xFDFFFFFF#32 =
      0xFFFF7FFF#32 ∧
    pitchStep { ptab := [(2046, 5#32), (2047, 0xFFFFFFFF#32)], vtab := [], stab := [], wtab := [] } 0xFFFFFFFF#32 =
      0xFFFFFFFF#32 := by decide

/-- 2.5: volume lookup. -/
theorem test_volume_lookup :
    ampTarget { ptab := [], vtab := [(640, 800#10), (641, 700#10)], stab := [], wtab := [] } 1030#16 = 0x2FA80000 ∧
    ampTarget { ptab := [], vtab := [(1022, 900#10), (1023, 17#10)], stab := [], wtab := [] } 65535#16 = 0x01100000 := by decide

/-- 2.6: amplitude smoothing, rising, falling and stalled. -/
theorem test_smoothing : smoothAmp Config.params 0x000FFC00#30 0x3FF00000 = 0x001FF401#30 ∧
    smoothAmp Config.params 0x3FF00000#30 0 = 0x3FE00400#30 ∧ smoothAmp Config.params 0x400#30 0 = 0x3FF#30 ∧
    smoothAmp Config.params 0x3FF#30 0 = 0x3FF#30 := by decide

/-- 42_period_filter R179 and 2.7: one filter step. -/
theorem test_filter :
    filterStep Config.params 5000#32 10#16 9#16 = (0x00201383#32, 9#16) ∧
    filterStep Config.params (BitVec.ofInt 32 (-1000)) 100#16 100#16 = (BitVec.ofInt 32 (-1000), 100#16) ∧
    filterStep Config.params 0#32 0#16 1535#16 = (0x000FF800#32, 1535#16) ∧
    filterStep Config.params 0#32 0#16 1536#16 = (0xFFF80000#32, 1536#16) ∧
    filterStep Config.params 0x7FFFFFFF#32 0#16 2#16 = (0x7FC01000#32, 2#16) := by decide

/-- 2.7: control values. -/
theorem test_controls : pitchControl Config.params 0x7FFFFFFF#32 0x80000000#32 = 0xFFFFFFFF#32 ∧
    pitchControl Config.params (BitVec.ofInt 32 (-5)) 0#32 = 1#32 ∧
    volControl Config.params (BitVec.ofInt 32 67107839) 0#32 = 65534#16 ∧
    volControl Config.params (BitVec.ofInt 32 (-2048)) 0#32 = 1#16 := by decide

/-- A state for the synthesis vectors: two waveform entries, unmuted. -/
def synthState (wlen : BitVec 2) (phase : Word) (amp : BitVec 30) (wtab : Entries 16) : State :=
  { State.reset with mute := false, wlen := wlen, phase := phase, amp := amp,
                     mem := { ptab := [], vtab := [], stab := [], wtab := wtab } }

/-- 2.8: synthesis without shaping, with wrap at the end of the table and truncation toward zero. -/
theorem test_synth :
    synthSample (synthState 0#2 0x00180000#32 0x3FF00000#30 [(1, 1000#16), (2, 3000#16)]) = 1998 ∧
    synthSample (synthState 0#2 0xFFF80000#32 0x3FF00000#30 [(0, 32767#16), (1023, 0x8000#16)]) = 0 ∧
    synthSample (synthState 1#2 0x80100000#32 0x3FF00000#30 [(1, 0xFFFB#16), (2, 5#16)]) = -4 ∧
    synthSample (synthState 0#2 0#32 0x3FF00000#30 [(0, 0x8000#16), (1, 0#16)]) = -32736 := by decide

/-- 2.9: shaping, both signs, and the flat top segment. -/
theorem test_shape :
    shapeSample { ptab := [], vtab := [], stab := [(131, 700#16), (132, 900#16)], wtab := [] } 1000 = 881 ∧
    shapeSample { ptab := [], vtab := [], stab := [(124, BitVec.ofInt 16 (-900)), (125, BitVec.ofInt 16 (-700))], wtab := [] }
      (-1000) = -881 ∧
    shapeSample { ptab := [], vtab := [], stab := [(255, 32512#16)], wtab := [] } 32735 = 32512 := by decide

/-- Program B before line 12. -/
def programB : State :=
  { State.reset with
    mute := false, amp := 0x3FF00000#30,
    mem := { ptab := [(0, 0x80000#32), (1, 0x80000#32)], vtab := [(0, 1023#10), (1, 1023#10)], stab := [],
             wtab := [(0, 0#16), (1, 16000#16), (2, BitVec.ofInt 16 (-16000)), (3, 0#16)] } }

/-- Program B, line 12: the sample 7992, `PHASE` 0x80000, `STEP` 0x80000; nothing answers the host. -/
theorem test_tick_programB : (after (.tick 0#16 0#16) programB).emitted = some 7992#16 ∧
    (after (.tick 0#16 0#16) programB).phase = 0x80000#32 ∧ (after (.tick 0#16 0#16) programB).stepReg = 0x80000#32 ∧
    (after (.tick 0#16 0#16) programB).amp = 0x3FF00000#30 ∧ (after (.tick 0#16 0#16) programB).resp = none := by decide

/-- Program C, line 14 from the state line 13 left: a tick that does not render still filters. -/
theorem test_tick_programC :
    let s := { State.reset with div2 := true, divph := true, fpitch := 2145439744#32, fvol := 2145644544#32, capp := 2100#16,
                                capv := 2300#16, amp := 0xFA000#30 }
    (after (.tick 4200#16 4600#16) s).fpitch = 2143397836#32 ∧ (after (.tick 4200#16 4600#16) s).fvol = 2143807236#32 ∧
      (after (.tick 4200#16 4600#16) s).divph = false ∧ (after (.tick 4200#16 4600#16) s).emitted = none ∧
      (after (.tick 4200#16 4600#16) s).amp = 0xFA000#30 := by decide

/-- 45_tick R222: RESET keeps the tables and sets the registers. -/
theorem test_reset_event : (after .reset programB).mem = programB.mem ∧
    { after .reset programB with mem := State.reset.mem } = State.reset := by decide

/-- The step performs the pending word and takes it off the port (`wr pofs, 0x7F836EC2`, program C line 20). -/
theorem test_step_pending :
    left (step { State.reset with pending := [0x040027F836EC2#50, 0x0800200000000#50] }) =
      { State.reset with pofs := 0x7F836EC2#32, resp := some { err := false, rdata := 0#32 },
                         pending := [0x0800200000000#50] } := by decide

/-- `withFetchWord` presents a word as the very next event. -/
theorem test_withFetchWord : step (State.reset.withFetchWord 56 0x10000083408FC) = exec (.tick 2100#16 2300#16) State.reset :=
  rfl

/-- 60_exceptions R252: TICK before the host command; RESET alone. -/
theorem test_boundary :
    ({ rst := false, tick := true, capP := 2100#16, capV := 2300#16, hOp := 2#2, hAddr := 1#14, hWdata := 0#32 } :
      Boundary).events = [0x10000083408FC#50, 0x0800100000000#50] ∧
    ({ rst := true, tick := true, capP := 2100#16, capV := 2300#16, hOp := 2#2, hAddr := 1#14, hWdata := 0#32 } :
      Boundary).events = [0x2000000000000#50] := by decide

/-! ### Witnesses: the hypotheses of the statements are met, at the boundary of each clause -/

/-- The operations with a well-formedness check, at the ends of each reserved range. -/
theorem test_witness_DecodeOfEncodeIsTheOperation :
    ([0x000E#14, 0x07FF#14, 0x1500#14, 0x1FFF#14, 0x3000#14, 0x3FFF#14].map fun a =>
      (Instr.wrRsvd a).wellFormed && (Instr.rdRsvd a).wellFormed && decide (decode (encode (.wrRsvd a)) = .wrRsvd a) &&
        decide (decode (encode (.rdRsvd a)) = .rdRsvd a)) = List.replicate 6 true := by decide

/-- A word and rows that it matches: a register row, the last window row, at the ends of their windows. -/
theorem test_witness_DecodeSelectsTheFirstMatchingRow :
    rowMatches 0x04FFFFFFFFFFF#50 ⟨"WR.PTAB", 0x0480000000000#50, 0x3F80000000000#50⟩ = true ∧
    rowMatches 0x0480000000000#50 ⟨"WR.PTAB", 0x0480000000000#50, 0x3F80000000000#50⟩ = true ∧
    (⟨"WR.PTAB", 0x0480000000000#50, 0x3F80000000000#50⟩ : OpRow) ∈ registerRows ++ windowRows ∧
    (firstRow 0x0400E00000000#50).map OpRow.mnemonic = some "WR.RSVD" := by decide

theorem test_witness_DontCareBitsAreIgnored :
    (portOf 0x03FFFFFFFFFFF#50 = 0#2 ∧ opOf 0x03FFFFFFFFFFF#50 = 0#2) ∧
    (portOf 0x0FFFFFFFFFFFF#50 = 0#2 ∧ opOf 0x0FFFFFFFFFFFF#50 = 3#2) ∧
    (portOf 0x0800612345678#50 = 0#2 ∧ opOf 0x0800612345678#50 = 2#2) ∧
    portOf 0x1ABCD00010002#50 = 1#2 ∧ portOf 0x2FFFFFFFFFFFF#50 = 2#2 ∧ portOf 0x3000000000000#50 = 3#2 := by decide

theorem test_witness_StepPerformsTheNextPendingEvent :
    { State.reset with pending := [0x10000083408FC#50, 0#50] }.pending = 0x10000083408FC#50 :: [0#50] ∧
    decode 0x10000083408FC#50 = .tick 2100#16 2300#16 := by decide

theorem test_witness_IdlePortStepIsAnHnop : State.reset.pending = [] := rfl

/-- One boundary for each clause: reset with everything else presented, tick alone, tick with a command, a command alone,
nothing. -/
def boundary (rst tick : Bool) (op : BitVec 2) : Boundary :=
  { rst := rst, tick := tick, capP := 2100#16, capV := 2300#16, hOp := op, hAddr := 0x0001#14, hWdata := 5#32 }

theorem test_witness_BoundaryEventsAreOrdered : State.reset.pending = [] ∧ (boundary true true 3#2).rst = true ∧
    ((boundary false true 0#2).tick = true ∧ (boundary false true 0#2).hOp = 0#2) ∧
    ((boundary false true 1#2).tick = true ∧ (boundary false true 1#2).hOp ≠ 0#2) ∧
    ((boundary false false 3#2).tick = false ∧ (boundary false false 3#2).hOp ≠ 0#2) ∧
    ((boundary false false 0#2).tick = false ∧ (boundary false false 0#2).hOp = 0#2) := by decide

/-- The legal lengths and the illegal one. -/
theorem test_witness_ControlWriteSetsAllFieldsOrNone : (2#2 : BitVec 2) ≠ 3#2 ∧ (0#2 : BitVec 2) ≠ 3#2 ∧
    (0x30#32 : Word).extractLsb' 4 2 = 3#2 ∧ (0xFFFFFFEF#32 : Word).extractLsb' 4 2 ≠ 3#2 := by decide

/-- The frame clause of each table at a neighbouring entry and at another table. -/
theorem test_witness_TableWriteStoresSaturatedEntry : (TableName.ptab ≠ .ptab ∨ 2046 ≠ (2047#11).toNat) ∧
    (TableName.ptab ≠ .vtab ∨ 1023 ≠ (1023#10).toNat) ∧ (TableName.stab ≠ .stab ∨ 1 ≠ (0#8).toNat) ∧
    (TableName.wtab ≠ .wtab ∨ 4094 ≠ (4095#12).toNat) := by decide

theorem test_witness_RepeatedTableWriteChangesNothing : WritesTable (.wrVtab 1023#10 5000#32) ∧
    exec (.wrVtab 1023#10 5000#32) State.reset = .next (after (.wrVtab 1023#10 5000#32) State.reset) := ⟨trivial, rfl⟩

/-- Every operation named, at the ends of the reserved ranges. -/
theorem test_witness_RejectedCommandsOnlyAnswerError : reservedAddr 0x000E#14 = true ∧ reservedAddr 0x3FFF#14 = true ∧
    Instr.wrRsvd 0x000E#14 ∈ [Instr.hrsv, .wrRoStatus, .wrRoPctl, .wrRoVctl, .wrRoCapp, .wrRoCapv, .wrRoSample, .wrRoStep,
      .wrRsvd 0x000E#14, .rdRsvd 0x000E#14] := by decide

theorem test_witness_ErrorResponseIsExactlyTheFiveCauses : Rejected (.wrCtrl false false false 3#2) ∧
    (after (.wrCtrl false false false 3#2) State.reset).resp = some { err := true, rdata := 0#32 } := ⟨rfl, by decide⟩

theorem test_witness_HostCommandKeepsTickEngineRegisters : portOf 0x0C00000000000#50 = 0#2 ∧
    (after (decode 0x0C00000000000#50) State.reset).resp = some { err := true, rdata := 0#32 } := by decide

theorem test_witness_HostReadsHaveNoSideEffect : portOf 0x0800E00000000#50 = 0#2 ∧ opOf 0x0800E00000000#50 = 2#2 := by
  decide

/-- A TICK and a write of the other offset between write and read. -/
theorem test_witness_OffsetRoundTripThroughAnyEvents :
    (∀ i ∈ [Instr.tick 1#16 2#16, .rdPofs, .evrsv], i ≠ .reset) ∧
    (∀ i ∈ [Instr.tick 1#16 2#16, .rdPofs, .evrsv], ∀ d : Word, i ≠ .wrPofs d ∧ i ≠ .wrVofs d) := by
  constructor <;> simp

/-- The last entries of `PTAB` loaded with a TICK, a RESET and a read between the two writes; the last entry of each other
table; the empty load at the end; an entry just outside on either side. -/
theorem test_witness_LoadStoresConsecutiveEntries : 2046 + [1#32, 2#32].length ≤ tableSize .ptab ∧
    assembleAll (pseudoLoad .ptab 2046 [1#32, 2#32]) = some [0x04FFE00000001#50, 0x04FFF00000002#50] ∧
    TableWritesAre [.tick 1#16 2#16, .wrPtab 2046#11 1#32, .tick 3#16 4#16, .reset, .wrPtab 2047#11 2#32, .rdPctl]
      ([0x04FFE00000001#50, 0x04FFF00000002#50].map decode) ∧
    1023 + [5000#32].length ≤ tableSize .vtab ∧ 255 + [0x8000#32].length ≤ tableSize .stab ∧
    4096 + ([] : List Word).length ≤ tableSize .wtab ∧ (TableName.ptab ≠ .ptab ∨ 2045 < 2046 ∨ 2046 + 2 ≤ 2045) ∧
    (TableName.ptab ≠ .ptab ∨ 2048 < 2046 ∨ 2046 + 2 ≤ 2048) := by
  refine ⟨by decide, by decide, ?_, by decide, by decide, by decide, by decide, by decide⟩
  have h : [0x04FFE00000001#50, 0x04FFF00000002#50].map decode = [.wrPtab 2046#11 1#32, .wrPtab 2047#11 2#32] := by decide
  rw [h]
  exact .inl ⟨fun h => h, .inr ⟨trivial, _, rfl, .inl ⟨fun h => h, .inl ⟨fun h => h, .inr ⟨trivial, _, rfl,
    .inl ⟨fun h => h, rfl⟩⟩⟩⟩⟩⟩

/-- The defaults and the two ends of the shift. -/
theorem test_witness_legal_parameters : Config.params.Legal ∧ { Config.params with filtShift := 0, ampShift := 0 }.Legal ∧
    { Config.params with filtShift := 16, ampShift := 16 }.Legal := by decide

/-- Period 0, the ends of the doubling range, and the largest period. -/
theorem test_witness_FilterStepIsExact : Config.params.Legal ∧
    0 = ((100#16).toNat + 65536 - (100#16).toNat) % 65536 ∧ 1 = ((0#16).toNat + 65536 - (65535#16).toNat) % 65536 ∧
    1535 = ((1535#16).toNat + 65536 - (0#16).toNat) % 65536 ∧ 1536 = ((1536#16).toNat + 65536 - (0#16).toNat) % 65536 ∧
    65535 = ((9#16).toNat + 65536 - (10#16).toNat) % 65536 := by decide

theorem test_witness_FilterUpdateStaysBetween : Config.params.Legal ∧ (-2 ^ 31 : Int) ≤ 2 ^ 31 - 1 ∧
    (-2 ^ 31 : Int) ≤ -2 ^ 31 := by decide

/-- 42_period_filter R180: from 0 and from the sentinel toward 1048576; exactly at the stall distance; and inside it. -/
theorem test_witness_FilterConvergesAndStalls : Config.params.Legal ∧ (-2 ^ 31 : Int) ≤ 1048576 ∧
    (1048576 : Int) ≤ 2 ^ 31 - 1 ∧ (2 : Int) ^ Config.params.filtShift - 1 ≤ 1048576 - (0#32).toInt ∧
    (2 : Int) ^ Config.params.filtShift - 1 ≤ (0x7FFFFFFF#32).toInt - 1048576 ∧
    (2 : Int) ^ Config.params.filtShift - 1 = 1048576 - (1047553#32).toInt ∧
    (1048576 : Int) - (1048575#32).toInt < 2 ^ Config.params.filtShift - 1 := by decide

/-- TICKs whose captures stand still, with other commands between. -/
theorem test_witness_ConstantCaptureKeepsTheAccumulator :
    (∀ i ∈ [Instr.tick 0#16 0#16, .wrPofs 1#32, .tick 0#16 0#16], i ≠ .reset) ∧
    (∀ i ∈ [Instr.tick 0#16 0#16, .wrPofs 1#32, .tick 0#16 0#16],
      (∀ d : Word, i ≠ .wrFpitch d) ∧ ∀ p v : Capture, i = .tick p v → p = State.reset.capp) ∧
    (∀ i ∈ [Instr.tick 0#16 0#16, .wrPofs 1#32, .tick 0#16 0#16],
      (∀ d : Word, i ≠ .wrFvol d) ∧ ∀ p v : Capture, i = .tick p v → v = State.reset.capv) := by
  refine ⟨by simp, ?_, ?_⟩ <;> simp [State.reset]

/-- Without shaping, and with shaping and the divider on. -/
theorem test_witness_UnmutedRenderTickSynthesises : (programB.mute = false ∧ RenderTick programB ∧ programB.shapeEn = false) ∧
    { programB with shapeEn := true, div2 := true }.mute = false ∧
    RenderTick { programB with shapeEn := true, div2 := true } := by decide

theorem test_witness_MutedRenderTickDeliversZero : State.reset.mute = true ∧ RenderTick State.reset ∧
    RenderTick { State.reset with div2 := true } := by decide

theorem test_witness_NonRenderTickSkipsSynthesis : { programB with div2 := true, divph := true }.div2 = true ∧
    { programB with div2 := true, divph := true }.divph = true := by decide

/-- A delivered sample, a tick without one, and a host command. -/
theorem test_witness_SampleExactlyOnRenderTicks : (after (.tick 0#16 0#16) programB).emitted = some 7992#16 ∧
    (after (.tick 0#16 0#16) { programB with div2 := true, divph := true }).emitted = none ∧
    (after .rdStep programB).emitted = none ∧ Instr.rdStep ≠ .reset := by decide

theorem test_witness_DividerAlternatesRenderTicks : { programB with div2 := true }.div2 = true ∧ programB.div2 = false := by
  decide

theorem test_witness_OffsetWriteMissesTheNextSample :
    Instr.wrFvol 5#32 ∈ [Instr.wrPofs 5#32, .wrVofs 5#32, .wrFpitch 5#32, .wrFvol 5#32] := by decide

/-- A muted run with ticks, a table write, a RESET and a write of `CTRL` that keeps `MUTE`. -/
theorem test_witness_MutedRunDeliversOnlySilence : State.reset.mute = true ∧
    ∀ i ∈ [Instr.tick 1#16 2#16, .wrCtrl true true false 2#2, .wrWtab 0#12 7#32, .reset, .tick 3#16 4#16],
      ∀ (v sh : Bool) (l : BitVec 2), i ≠ .wrCtrl false v sh l := by
  constructor
  · rfl
  · simp

theorem test_witness_DegenerateCalibrationPinsTheControls : { State.reset with pofs := 0x7FFFFFFF#32 }.pofs = Config.sentinel ∧
    { State.reset with vofs := 0x7FFFFFFF#32 }.vofs = Config.sentinel := by decide

theorem test_witness_OnlyTableWritesChangeTables : ¬ WritesTable .reset ∧ ¬ WritesTable (.tick 1#16 2#16) :=
  ⟨fun h => h, fun h => h⟩

/-- A TICK meets the clauses of the registers it may not write; a host read meets all of them. -/
theorem test_witness_RegistersChangeOnlyByTheirWriters : Instr.tick 1#16 2#16 ≠ .reset ∧
    (∀ d : Word, Instr.tick 1#16 2#16 ≠ .wrPofs d ∧ Instr.tick 1#16 2#16 ≠ .wrVofs d) ∧
    (∀ (m v sh : Bool) (l : BitVec 2), Instr.tick 1#16 2#16 ≠ .wrCtrl m v sh l) ∧
    (∀ p v : Capture, Instr.rdAmp ≠ .tick p v) ∧
    (∀ d : Word, Instr.rdAmp ≠ .wrFpitch d ∧ Instr.rdAmp ≠ .wrFvol d ∧ Instr.rdAmp ≠ .wrPhase d ∧ Instr.rdAmp ≠ .wrAmp d) := by
  simp

/-- Program B's state with a TICK pending; a state at the upper edge of the invariant. -/
theorem test_witness_EveryStepKeepsTheInvariant : Inv { programB with pending := [0x1000000000000#50] } ∧
    step { programB with pending := [0x1000000000000#50] } = .next (after (.tick 0#16 0#16) programB) ∧
    Inv { programB with wlen := 2#2, amp := 0x3FF00000#30, pctl := 0xFFFFFFFF#32, vctl := 65535#16 } :=
  ⟨by decide, rfl, by decide⟩

theorem test_witness_UnshapedSampleStaysWithin32736 : Inv { programB with pending := [0x1000000000000#50] } ∧
    programB.shapeEn = false ∧ |programB.sample.toInt| ≤ 32736 ∧
    step { programB with pending := [0x1000000000000#50] } = .next (after (.tick 0#16 0#16) programB) ∧
    (after (.tick 0#16 0#16) programB).shapeEn = false := ⟨by decide, rfl, by decide, rfl, rfl⟩

theorem test_witness_SynthSampleIsInRange : programB.amp.toNat ≤ Config.ampMax ∧ programB.shapeEn = false := by decide

theorem test_witness_FinalClampNeverActs : programB.amp.toNat ≤ Config.ampMax ∧ programB.mute = false := by decide

theorem test_witness_KeyIsMonotoneAndExactAtPowers : (1 ≤ 1 ∧ 1 ≤ 2 ^ 32 - 1 ∧ 2 ^ 32 - 1 < 2 ^ 32) ∧ 0 ≤ 31 ∧ 31 ≤ 31 := by
  decide

theorem test_witness_VolumeIndexStaysInTheTable : (1 ≤ 1 ∧ 1 ≤ 65535) ∧ 1 ≤ 65535 ∧ 65535 ≤ 65535 := by decide

/-- Index 0 stands for 1, index 2047 for 127 · 2^25. -/
theorem test_witness_KeyOfRepresentativeValue : (0 < 2048 ∧ 1 * 64 = 2 ^ (0 / 64) * (64 + 0 % 64)) ∧
    2047 < 2048 ∧ (127 * 2 ^ 25) * 64 = 2 ^ (2047 / 64) * (64 + 2047 % 64) := by decide

/-- The first and the last index, with the smallest and the largest fraction. -/
theorem test_witness_InterpolationStaysBetweenNeighbours : 0 < tableSize .vtab ∧ 0 < 2 ^ 17 ∧ 1023 < tableSize .vtab ∧
    131071 < 2 ^ 17 ∧ 1023 + 1 = tableSize .vtab ∧
    memRead programB.mem .wtab 0 ≠ memRead programB.mem .wtab (min (0 + 1) (tableSize .wtab - 1)) := by decide

/-- A memory whose tables are given functions of the index. -/
def loaded (p : Nat → BitVec 32) (v : Nat → BitVec 10) (t w : Nat → BitVec 16) : Memory :=
  { ptab := (List.range' 0 2048).map fun k => (k, p k), vtab := (List.range' 0 1024).map fun k => (k, v k),
    stab := (List.range' 0 256).map fun k => (k, t k), wtab := (List.range' 0 4096).map fun k => (k, w k) }

/-- The linear pitch image, a falling volume image, the identity curve and an all-zero waveform. -/
def images : Memory :=
  loaded (fun k => BitVec.ofInt 32 (linearPitch k)) (fun k => BitVec.ofNat 10 (1023 - k))
    (fun k => BitVec.ofInt 16 (identityCurve k)) (fun _ => 0#16)

/-- A non-decreasing pitch image: entry `i` is `i`. -/
def rising : Memory := loaded (fun k => BitVec.ofNat 32 k) (fun k => BitVec.ofNat 10 (1023 - k)) (fun _ => 0#16) (fun _ => 0#16)

theorem read_rising_ptab {i : Nat} (h : i < 2048) : memRead rising .ptab i = i := by
  show ((lookupEntry ((List.range' 0 2048).map fun k => (k, BitVec.ofNat 32 k)) i).getD _).toNat = (i : Int)
  rw [Laws.lookupEntry_map_range' _ _ _ _ (Nat.zero_le _) (by omega)]
  simp only [Option.getD_some, BitVec.toNat_ofNat]; omega

theorem read_rising_vtab {i : Nat} (h : i < 1024) : memRead rising .vtab i = 1023 - i := by
  show ((lookupEntry ((List.range' 0 1024).map fun k => (k, BitVec.ofNat 10 (1023 - k))) i).getD _).toNat = (1023 - i : Int)
  rw [Laws.lookupEntry_map_range' _ _ _ _ (Nat.zero_le _) (by omega)]
  simp only [Option.getD_some, BitVec.toNat_ofNat]; omega

/-- Both images, with the ends of each control value's range. -/
theorem test_witness_LookupsAreMonotoneInTheControlValue : NonDecreasing rising .ptab ∧ NonIncreasing rising .vtab ∧
    (1 ≤ (1#32).toNat ∧ (1#32).toNat ≤ (0xFFFFFFFF#32).toNat) ∧ 1 ≤ (1#16).toNat ∧ (1#16).toNat ≤ (65535#16).toNat := by
  refine ⟨fun i j hij hj => ?_, fun i j hij hj => ?_, by decide, by decide, by decide⟩
  · have hj' : j < 2048 := hj
    rw [read_rising_ptab hj', read_rising_ptab (Nat.lt_of_le_of_lt hij hj')]; omega
  · have hj' : j < 1024 := hj
    rw [read_rising_vtab hj', read_rising_vtab (Nat.lt_of_le_of_lt hij hj')]; omega

theorem linearPitch_bounds {i : Nat} (h : i ≤ 1536) : 0 ≤ linearPitch i ∧ linearPitch i < 2 ^ 32 := by
  have h1 : (2 : Int) ^ (i / 64) ≤ 2 ^ 24 := pow_le_pow_right₀ (by norm_num) (by omega)
  have h2 : (0 : Int) < 2 ^ (i / 64) := by positivity
  have h3 : ((i % 64 : Nat) : Int) ≤ 63 := by omega
  have h4 : (0 : Int) ≤ ((i % 64 : Nat) : Int) := by omega
  unfold linearPitch
  generalize (2 : Int) ^ (i / 64) = a at *
  generalize ((i % 64 : Nat) : Int) = b at *
  constructor <;> nlinarith

/-- The image, and the ends of the range of control values. -/
theorem test_witness_LinearImageGivesProportionalStep :
    (∀ i : Nat, i ≤ 1536 → memRead images .ptab i = linearPitch i) ∧ 1 ≤ (1#32).toNat ∧ (0xFFFFFF#32).toNat < 2 ^ 24 := by
  refine ⟨fun i hi => ?_, by decide, by decide⟩
  show ((lookupEntry ((List.range' 0 2048).map fun k => (k, BitVec.ofInt 32 (linearPitch k))) i).getD _).toNat = linearPitch i
  rw [Laws.lookupEntry_map_range' _ _ _ _ (Nat.zero_le _) (by omega), Option.getD_some]
  exact Laws.toNat_ofInt_of_mem (linearPitch_bounds hi).1 (linearPitch_bounds hi).2

theorem test_witness_AmpSmootherStaysBetween : Config.params.Legal ∧ (0x3FF00000#30).toNat ≤ Config.ampMax ∧ (0 : Int) ≤ 0 ∧
    ((Config.ampMax : Nat) : Int) ≤ Config.ampMax ∧
    |(1023 : Int) - ((0#30 : BitVec 30).toNat : Int)| < 2 ^ Config.params.ampShift := by decide

theorem test_witness_WaveIndicesWrapInsideTheTable : (0#2 : BitVec 2) ≠ 3#2 ∧ (1#2 : BitVec 2) ≠ 3#2 ∧ (2#2 : BitVec 2) ≠ 3#2 := by
  decide

/-- The identity curve, and both sides of the flat top segment. -/
theorem test_witness_IdentityCurveShapesToItself :
    (∀ j : Nat, j < 256 → memRead images .stab j = identityCurve j) ∧ (-32768 : Int) ≤ 32511 ∧ (32512 : Int) ≤ 32767 := by
  refine ⟨fun j hj => ?_, by decide, by decide⟩
  show ((lookupEntry ((List.range' 0 256).map fun k => (k, BitVec.ofInt 16 (identityCurve k))) j).getD _).toInt = _
  rw [Laws.lookupEntry_map_range' _ _ _ _ (Nat.zero_le _) (by omega), Option.getD_some]
  exact Laws.toInt_ofInt_16 (by unfold identityCurve; omega)

/-- The longest waveform, all zero, unmuted. -/
theorem test_witness_ZeroWaveformIsSilent : (2#2 : BitVec 2) ≠ 3#2 ∧
    (∀ j : Nat, j < 1024 * 2 ^ (2#2 : BitVec 2).toNat → memRead images .wtab j = 0) ∧
    { programB with wlen := 2#2, mem := images }.shapeEn = false ∧ RenderTick { programB with wlen := 2#2, mem := images } := by
  refine ⟨by decide, fun j hj => ?_, rfl, .inl rfl⟩
  have hj' : j < 4096 := hj
  show ((lookupEntry ((List.range' 0 4096).map fun k => (k, (0#16 : BitVec 16))) j).getD _).toInt = _
  rw [Laws.lookupEntry_map_range' (fun _ => (0#16 : BitVec 16)) _ _ _ (Nat.zero_le _) (by omega), Option.getD_some]
  rfl

theorem test_witness_WaveformRepeatsEveryTableLength : (0#2 : BitVec 2) ≠ 3#2 ∧ (2#2 : BitVec 2) ≠ 3#2 := by decide

/-- The pitch image of `pitch_scale` = 1 with the other parameters 1 (entry `i` is `x_i` rounded down), and a silent volume
image. -/
def whole : Memory :=
  loaded (fun k => BitVec.ofNat 32 (2 ^ (k / 64) * (64 + k % 64) / 64)) (fun _ => 0#10) (fun _ => 0#16) (fun _ => 0#16)

theorem floor_imageInput (i : Nat) : ⌊imageInput i⌋ = ((2 ^ (i / 64) * (64 + i % 64) / 64 : Nat) : Int) := by
  have h : imageInput i = ((2 ^ (i / 64) * (64 + i % 64) : Nat) : Rat) / ((64 : Nat) : Rat) := by
    unfold imageInput; push_cast; ring
  rw [h, Rat.floor_natCast_div_natCast]; rfl

theorem image_lt {i : Nat} (hi : i < 2048) : 2 ^ (i / 64) * (64 + i % 64) / 64 < 2 ^ 32 := by
  have h1 : 2 ^ (i / 64) ≤ 2 ^ 31 := Nat.pow_le_pow_right (by norm_num) (by omega)
  have h2 : i % 64 < 64 := Nat.mod_lt _ (by norm_num)
  have h3 : 2 ^ (i / 64) * (64 + i % 64) ≤ 2 ^ 31 * 127 := Nat.mul_le_mul h1 (by omega)
  omega

/-- A rising pitch image, and a volume image at the edge `volume_scale` = 0. -/
theorem test_witness_HostImagesAreMonotone : PitchImage whole 1 1 1 1 (2 ^ 32 - 1) ∧ VolumeImage whole 8 0 := by
  constructor
  · intro i hi
    have hi' : i < 2048 := hi
    have h : memRead whole .ptab i = ((2 ^ (i / 64) * (64 + i % 64) / 64 : Nat) : Int) := by
      show ((lookupEntry ((List.range' 0 2048).map fun k => (k, BitVec.ofNat 32 (2 ^ (k / 64) * (64 + k % 64) / 64))) i).getD
        _).toNat = ((2 ^ (i / 64) * (64 + i % 64) / 64 : Nat) : Int)
      rw [Laws.lookupEntry_map_range' _ _ _ _ (Nat.zero_le _) (by omega), Option.getD_some, BitVec.toNat_ofNat,
        Nat.mod_eq_of_lt (image_lt hi')]
    rw [h, Real.rpow_one, mul_one, mul_one, mul_one, Rat.floor_cast, floor_imageInput, min_eq_right]
    have := image_lt hi'
    omega
  · intro i hi
    have hi' : i < 1024 := hi
    have h : memRead whole .vtab i = 0 := by
      show ((lookupEntry ((List.range' 0 1024).map fun k => (k, (0#10 : BitVec 10))) i).getD _).toNat = (0 : Int)
      rw [Laws.lookupEntry_map_range' (fun _ => (0#10 : BitVec 10)) _ _ _ (Nat.zero_le _) (by omega), Option.getD_some]
      rfl
    rw [h]; norm_num

end Sys2Proof.Tests
end

section
/-! SUPPORT. When `tdiv` is 0, and what the leading-bit position `lg` and the key are (00_scope R12, R16; 43_lookup R185):
each shift of the key's mantissa is one division, so that monotony and width need no case split on the exponent. -/

namespace Sys2Proof.Laws

open Sys2Proof.Machine

/-- Truncated division by 2^k loses exactly the numbers of magnitude below 2^k (00_scope R12). -/
theorem tdiv_eq_zero_iff (a : Int) (k : Nat) : tdiv a k = 0 ↔ |a| < 2 ^ k := by
  have hp : (0 : Int) < 2 ^ k := by positivity
  have hnonneg (b : Int) (hb : 0 ≤ b) : tdiv b k = 0 ↔ |b| < 2 ^ k := by
    rw [(tdiv_of_nonneg k hb).1, abs_of_nonneg hb]
    exact ⟨fun h => by simpa [h] using Int.lt_ediv_add_one_mul_self b hp, fun h => Int.ediv_eq_zero_of_lt hb h⟩
  rcases Int.le_total 0 a with ha | ha
  · exact hnonneg a ha
  · rw [← abs_neg, ← hnonneg (-a) (by omega), tdiv_neg, neg_eq_zero]

/-! ### The leading bit -/

theorem two_pow_lg_le {v : Nat} (hv : 1 ≤ v) : 2 ^ lg v ≤ v := Nat.log2_self_le (by omega)

theorem lt_two_pow_lg_succ (v : Nat) : v < 2 ^ (lg v + 1) := Nat.lt_log2_self

theorem lg_lt_iff {v k : Nat} (hv : 1 ≤ v) : lg v < k ↔ v < 2 ^ k := Nat.log2_lt (by omega)

@[simp] theorem lg_two_pow (e : Nat) : lg (2 ^ e) = e := Nat.log2_two_pow

theorem lg_mono {v w : Nat} (hv : 1 ≤ v) (hvw : v ≤ w) : lg v ≤ lg w :=
  (Nat.le_log2 (by omega)).2 ((two_pow_lg_le hv).trans hvw)

/-! ### The key -/

/-- Either shift of the mantissa is one truncating division by the leading power of two (43_lookup R185). -/
theorem mantissa_eq_div (v : Nat) : mantissa v = (v - 2 ^ lg v) * 2 ^ 23 / 2 ^ lg v := by
  unfold mantissa
  generalize v - 2 ^ lg v = r
  generalize lg v = e
  split
  · next he =>
    rw [← Nat.sub_add_cancel he, pow_add, ← mul_assoc, Nat.add_sub_cancel, Nat.mul_div_cancel _ (by positivity)]
  · next he =>
    have hsplit : 2 ^ e = 2 ^ (e - 23) * 2 ^ 23 := by rw [← pow_add]; congr 1; omega
    rw [hsplit, Nat.mul_div_mul_right _ _ (by positivity)]

/-- The mantissa has 23 bits. -/
theorem mantissa_lt (v : Nat) : mantissa v < 2 ^ 23 := by
  have hv := lt_two_pow_lg_succ v
  rw [pow_succ] at hv
  rw [mantissa_eq_div, Nat.div_lt_iff_lt_mul (by positivity), mul_comm]
  exact Nat.mul_lt_mul_of_pos_left (by omega) (by positivity)

/-- With the same leading bit, the larger value has the larger mantissa. -/
theorem mantissa_mono {v w : Nat} (hlg : lg v = lg w) (hvw : v ≤ w) : mantissa v ≤ mantissa w := by
  rw [mantissa_eq_div, mantissa_eq_div, hlg]
  gcongr

theorem key_of_pos {v : Nat} (hv : 1 ≤ v) : key v = lg v * 2 ^ 23 + mantissa v := if_neg (by omega)

/-- The exponent is the key's top field: the key lies in the octave of its exponent. -/
theorem key_octave {v : Nat} (hv : 1 ≤ v) : lg v * 2 ^ 23 ≤ key v ∧ key v < (lg v + 1) * 2 ^ 23 := by
  have := mantissa_lt v
  rw [key_of_pos hv]
  omega

/-- `Key` is non-decreasing (43_lookup R185): octaves follow one another, and inside one the mantissa decides. -/
theorem key_mono {v w : Nat} (hv : 1 ≤ v) (hvw : v ≤ w) : key v ≤ key w := by
  have hw : 1 ≤ w := hv.trans hvw
  rcases (lg_mono hv hvw).lt_or_eq with hlt | heq
  · have := key_octave hv
    have := key_octave hw
    omega
  · have := mantissa_mono heq hvw
    rw [key_of_pos hv, key_of_pos hw]
    omega

/-- The key of a 32-bit value has 28 bits (43_lookup R185). -/
theorem key_lt {v : Nat} (hv : 1 ≤ v) (hlt : v < 2 ^ 32) : key v < 2 ^ 28 := by
  have hlg : lg v < 32 := (lg_lt_iff hv).2 hlt
  have := key_octave hv
  omega

/-- At a power of two the mantissa is 0 and the key is exact (43_lookup R185). -/
theorem key_two_pow (e : Nat) : key (2 ^ e) = e * 2 ^ 23 := by
  rw [key_of_pos Nat.one_le_two_pow, mantissa_eq_div, lg_two_pow, Nat.sub_self, Nat.zero_mul, Nat.zero_div, Nat.add_zero]

/-! ### The smoother -/

/-- The smoothed amplitude lies between the old one and the target (43_lookup R191). -/
theorem smoothAmp_between (p : Config.Params) (amp : BitVec 30) {tgt : Int} (h : 0 ≤ tgt ∧ tgt ≤ Config.ampMax) :
    min (amp.toNat : Int) tgt ≤ (smoothAmp p amp tgt).toNat ∧
      ((smoothAmp p amp tgt).toNat : Int) ≤ max (amp.toNat : Int) tgt := by
  rw [smoothAmp_toNat p amp h]
  exact add_tdiv_sub_between amp.toNat tgt p.ampShift

/-- The smoother stalls exactly when the target is closer than its window (43_lookup R191). -/
theorem smoothAmp_eq_self_iff (p : Config.Params) (amp : BitVec 30) {tgt : Int} (h : 0 ≤ tgt ∧ tgt ≤ Config.ampMax) :
    smoothAmp p amp tgt = amp ↔ |tgt - amp.toNat| < 2 ^ p.ampShift := by
  have hexact := smoothAmp_toNat p amp h
  rw [← tdiv_eq_zero_iff, ← BitVec.toNat_inj]
  omega

end Sys2Proof.Laws
end

section
/-! The statements on the arithmetic of 00_scope R12 and R16: the filter update, the key and the amplitude smoother. -/

open Sys2Proof Sys2Proof.Machine Sys2Proof.Laws

/-- Settles O26: the update is exact, and a truncated part of the distance never passes the target. -/
theorem filterUpdateStaysBetween : Obligations.FilterUpdateStaysBetween := by
  intro p f tgt _ hlo hhi
  rw [filterUpdate_toInt p f ⟨hlo, hhi⟩]
  exact add_tdiv_sub_between f.toInt tgt p.filtShift

/-- Settles O49, from the octave of a key and the mantissa as one division. -/
theorem keyIsMonotoneAndExactAtPowers : Obligations.KeyIsMonotoneAndExactAtPowers := by
  refine ⟨fun v w hv hvw hw => ⟨key_mono hv hvw, key_lt (hv.trans hvw) hw⟩, fun e _ => key_two_pow e, ?_⟩
  decide

/-- Settles O55: the smoother is exact, so it moves by a truncated part of the distance and stalls where that is 0. -/
theorem ampSmootherStaysBetween : Obligations.AmpSmootherStaysBetween := by
  intro p amp tgt _ _ h0 hmax
  have htgt : 0 ≤ tgt ∧ tgt ≤ Config.ampMax := ⟨h0, hmax⟩
  obtain ⟨hlow, hhigh⟩ := smoothAmp_between p amp htgt
  have hexact : ((smoothAmp p amp tgt).toNat : Int) = amp.toNat + Int.tdiv (tgt - amp.toNat) (2 ^ p.ampShift) := by
    rw [smoothAmp_toNat p amp htgt, tdiv_eq_int_tdiv]
  exact ⟨hexact, hlow, hhigh, smoothAmp_eq_self_iff p amp htgt⟩
end

section
/-! SUPPORT. What one event can do, said once: the state every operation leaves, by cases. Every invariant and every
frame rule of 10_state is a short case analysis of it. -/

namespace Sys2Proof.Laws

open Sys2Proof.Machine

/-! ### Table writes -/

/-- What a table write makes of its data: the value brought into the entry's range (20_memory R64). -/
def entryOfData : TableName → Word → Int
  | .ptab, d => ptabOfData d
  | .vtab, d => vtabOfData d
  | .stab, d | .wtab, d => s16OfData d

/-- The operation that writes entry `k` of a table (40_host_access section 7). -/
def entryWrite : TableName → Nat → Word → Instr
  | .ptab, k, d => .wrPtab (BitVec.ofNat 11 k) d
  | .vtab, k, d => .wrVtab (BitVec.ofNat 10 k) d
  | .stab, k, d => .wrStab (BitVec.ofNat 8 k) d
  | .wtab, k, d => .wrWtab (BitVec.ofNat 12 k) d

theorem writesTable_entryWrite (t : TableName) (k : Nat) (d : Word) : WritesTable (entryWrite t k d) := by
  cases t <;> trivial

/-- The table writes are the writes of the entries inside their tables (20_memory R66). -/
theorem exists_entryWrite {i : Instr} (h : WritesTable i) :
    ∃ (t : TableName) (k : Nat) (d : Word), k < tableSize t ∧ i = entryWrite t k d := by
  cases i with
  | wrPtab k d => exact ⟨.ptab, k.toNat, d, k.isLt, by simp [entryWrite]⟩
  | wrVtab k d => exact ⟨.vtab, k.toNat, d, k.isLt, by simp [entryWrite]⟩
  | wrStab k d => exact ⟨.stab, k.toNat, d, k.isLt, by simp [entryWrite]⟩
  | wrWtab k d => exact ⟨.wtab, k.toNat, d, k.isLt, by simp [entryWrite]⟩
  | _ => exact h.elim

/-- A table write of an index inside the table stores its entry. -/
theorem exec_entryWrite {t : TableName} {k : Nat} (h : k < tableSize t) (d : Word) (s : State) :
    exec (entryWrite t k d) s = .next ((s.setEntry t k (entryOfData t d)).answer false 0#32) := by
  have hstore (w : Nat) (hw : k < 2 ^ w) : (BitVec.ofNat w k).toNat = k := by
    rw [BitVec.toNat_ofNat, Nat.mod_eq_of_lt hw]
  cases t with
  | ptab => simp [entryWrite, exec, execWrPtab, accept_eq, entryOfData, hstore 11 h]
  | vtab => simp [entryWrite, exec, execWrVtab, accept_eq, entryOfData, hstore 10 h]
  | stab => simp [entryWrite, exec, execWrStab, accept_eq, entryOfData, hstore 8 h]
  | wtab => simp [entryWrite, exec, execWrWtab, accept_eq, entryOfData, hstore 12 h]

/-! ### Effects -/

/-- The state an event leaves (30_encoding R92, 40_host_access R110, 45_tick R215, R222). -/
inductive Effect (s : State) : Instr → State → Prop
  /-- A rejected command answers the error response and changes nothing else (60_exceptions R247). -/
  | rejected {i : Instr} (h : Rejected i) : Effect s i (s.answer true 0#32)
  /-- An HNOP or a read, operation codes 0 and 2, answers a value and changes nothing else (40_host_access R111). -/
  | answered {i : Instr} (v : Word) (hr : ¬ Rejected i)
      (hf : EncodedFields.formatOf i = (0#2, some 0#2) ∨ EncodedFields.formatOf i = (0#2, some 2#2)) :
      Effect s i (s.answer false v)
  | ctrl (m d sh : Bool) {l : BitVec 2} (hl : l ≠ 3#2) :
      Effect s (.wrCtrl m d sh l) ((s.setCtrl m d sh l).answer false 0#32)
  | pofs (d : Word) : Effect s (.wrPofs d) ((s.setPofs d).answer false 0#32)
  | vofs (d : Word) : Effect s (.wrVofs d) ((s.setVofs d).answer false 0#32)
  | fpitch (d : Word) : Effect s (.wrFpitch d) ((s.setFpitch d).answer false 0#32)
  | fvol (d : Word) : Effect s (.wrFvol d) ((s.setFvol d).answer false 0#32)
  | phase (d : Word) : Effect s (.wrPhase d) ((s.setPhase d).answer false 0#32)
  | amp (d : Word) : Effect s (.wrAmp d) ((s.setAmp (ampOfData d)).answer false 0#32)
  /-- A table write stores one entry of one table (40_host_access section 7). -/
  | entry {t : TableName} {k : Nat} (hk : k < tableSize t) (d : Word) :
      Effect s (entryWrite t k d) ((s.setEntry t k (entryOfData t d)).answer false 0#32)
  | tick (p v : Capture) : Effect s (.tick p v) (tickWith Config.params p v s)
  | reset : Effect s .reset s.resetRegisters.silent
  | evrsv : Effect s .evrsv s.silent

/-- A write of `CTRL` stores all four fields, or with `WLEN` = 3 is rejected (40_host_access R112). -/
theorem exec_wrCtrl (m d sh : Bool) (l : BitVec 2) (s : State) :
    exec (.wrCtrl m d sh l) s =
      if l = 3#2 then .next (s.answer true 0#32) else .next ((s.setCtrl m d sh l).answer false 0#32) := by
  simp [exec, execWrCtrl, wlenIllegal, accept_eq, reject_eq]

/-- Every event completes, with one of the effects. -/
theorem exec_effect (i : Instr) (s : State) : ∃ t : State, exec i s = .next t ∧ Effect s i t := by
  by_cases hw : WritesTable i
  · obtain ⟨t, k, d, hk, rfl⟩ := exists_entryWrite hw
    exact ⟨_, exec_entryWrite hk d s, .entry hk d⟩
  cases i with
  | wrCtrl m d sh l =>
    rw [exec_wrCtrl]
    by_cases hl : l = 3#2
    · rw [if_pos hl]; exact ⟨_, rfl, .rejected hl⟩
    · rw [if_neg hl]; exact ⟨_, rfl, .ctrl m d sh hl⟩
  | wrPofs d => exact ⟨_, rfl, .pofs d⟩
  | wrVofs d => exact ⟨_, rfl, .vofs d⟩
  | wrFpitch d => exact ⟨_, rfl, .fpitch d⟩
  | wrFvol d => exact ⟨_, rfl, .fvol d⟩
  | wrPhase d => exact ⟨_, rfl, .phase d⟩
  | wrAmp d => exact ⟨_, rfl, .amp d⟩
  | wrPtab _ _ | wrVtab _ _ | wrStab _ _ | wrWtab _ _ => exact absurd trivial hw
  | tick p v => exact ⟨_, rfl, .tick p v⟩
  | reset => exact ⟨_, rfl, .reset⟩
  | evrsv => exact ⟨_, rfl, .evrsv⟩
  | hrsv | wrRoStatus | wrRoPctl | wrRoVctl | wrRoCapp | wrRoCapv | wrRoSample | wrRoStep | wrRsvd _ | rdRsvd _ =>
    exact ⟨_, rfl, .rejected trivial⟩
  | hnop => exact ⟨_, rfl, .answered _ id (.inl rfl)⟩
  | _ => exact ⟨_, rfl, .answered _ id (.inr rfl)⟩

/-- What a completed event left is one of the effects. -/
theorem effect_of_exec {i : Instr} {s t : State} (h : exec i s = .next t) : Effect s i t := by
  obtain ⟨u, hu, heffect⟩ := exec_effect i s
  rw [h] at hu
  cases hu
  exact heffect

/-- Only a table write changes a table (10_state R44). -/
theorem Effect.mem_eq {s t : State} {i : Instr} (h : Effect s i t) (hw : ¬ WritesTable i) : t.mem = s.mem := by
  cases h with
  | entry _ d => exact absurd (writesTable_entryWrite _ _ d) hw
  | tick p v => exact tickWith_mem _ _ _ _
  | _ => rfl

/-- An event performs the same whatever events are still to come (20_memory R71). -/
theorem exec_withPending {i : Instr} {s t : State} (h : exec i s = .next t) (ws : List EventWord) :
    exec i { s with pending := ws } = .next { t with pending := ws } := by
  cases i with
  | tick p v => cases h; exact congrArg Host.Outcome.next (tickWith_withPending _ p v s ws)
  | wrCtrl m d sh l =>
    rw [exec_wrCtrl] at h ⊢
    split at h <;> cases h
    · next hl => rw [if_pos hl]; rfl
    · next hl => rw [if_neg hl]; rfl
  | _ => cases h; rfl

end Sys2Proof.Laws
end

section
/-! SUPPORT. The ranges of 10_state R50: what a TICK leaves in `AMP` and `SAMPLE`, and that every event keeps the
invariant. -/

namespace Sys2Proof.Laws

open Sys2Proof.Machine

/-- The pitch part keeps the amplitude. -/
@[simp] theorem pitchPart_amp (s : State) : (pitchPart s).amp = s.amp := by unfold pitchPart; split <;> rfl

@[simp] theorem pitchPart_shapeEn (s : State) : (pitchPart s).shapeEn = s.shapeEn := by unfold pitchPart; split <;> rfl

@[simp] theorem pitchPart_vctl (s : State) : (pitchPart s).vctl = s.vctl := by unfold pitchPart; split <;> rfl

@[simp] theorem pitchPart_mem (s : State) : (pitchPart s).mem = s.mem := by unfold pitchPart; split <;> rfl

/-- The amplitude after part S: smoothed on a render tick, muted or not (45_tick R216). -/
theorem partS_amp (p : Config.Params) (s : State) :
    (partS p s).amp = if renders s then smoothAmp p s.amp (ampTarget s.mem s.vctl) else s.amp := by
  unfold partS; split <;> simp [outputPart, ampPart]

/-- `SAMPLE` after part S: synthesised on a render tick from the state its other lines left (45_tick R215). -/
theorem partS_sample (p : Config.Params) (s : State) :
    (partS p s).sample =
      if renders s then BitVec.ofInt 16 (synthSample (ampPart p (pitchPart s))) else s.sample := by
  unfold partS; split <;> simp [outputPart]

/-- Smoothing toward the looked-up target keeps `AMP` in range (43_lookup R190, R191). -/
theorem smoothAmp_le_ampMax (p : Config.Params) (m : Memory) {a : BitVec 30} (v : BitVec 16)
    (h : a.toNat ≤ Config.ampMax) : (smoothAmp p a (ampTarget m v)).toNat ≤ Config.ampMax := by
  have htgt := ampTarget_range m v
  have hbetween := smoothAmp_between p a htgt
  omega

theorem partS_amp_le_ampMax (p : Config.Params) {s : State} (h : s.amp.toNat ≤ Config.ampMax) :
    (partS p s).amp.toNat ≤ Config.ampMax := by
  rw [partS_amp]
  split
  · exact smoothAmp_le_ampMax p s.mem s.vctl h
  · exact h

theorem one_le_pitchControl (p : Config.Params) (f ofs : Word) : 1 ≤ (pitchControl p f ofs).toNat := by
  have hclamp := clamp_bounds (v := (f.toInt - ofs.toInt) * (p.pitchMul : Int)) (lo := 1) (hi := 2 ^ 32 - 1)
    (by norm_num)
  rw [← pitchControl_toNat] at hclamp
  omega

theorem one_le_volControl (p : Config.Params) (f ofs : Word) : 1 ≤ (volControl p f ofs).toNat := by
  have hclamp := clamp_bounds (v := tdiv (f.toInt - ofs.toInt) p.volNormShift) (lo := 1) (hi := 65535) (by norm_num)
  rw [← volControl_toNat] at hclamp
  omega

/-- A write of `AMP` saturates at `AMP_MAX` (40_host_access R123). -/
theorem ampOfData_le_ampMax (d : Word) : (ampOfData d).toNat ≤ Config.ampMax := by
  unfold ampOfData
  rw [BitVec.toNat_ofNat]
  exact (Nat.mod_le _ _).trans (min_le_right _ _)

/-- A TICK keeps the invariant (10_state R50). -/
theorem inv_tickWith (p : Config.Params) (capP capV : Capture) {s : State} (h : Inv s) :
    Inv (tickWith p capP capV s) := by
  obtain ⟨hwlen, hamp, -, -, hmem⟩ := h
  obtain ⟨-, htick, -⟩ := tickWith_synthesis p capP capV s
  refine ⟨?_, ?_, ?_, ?_, ?_⟩
  · rwa [tickWith_wlen]
  · rw [htick]; exact partS_amp_le_ampMax p hamp
  · rw [tickWith_pctl]; exact one_le_pitchControl _ _ _
  · rw [tickWith_vctl]; exact one_le_volControl _ _ _
  · rwa [tickWith_mem]

/-- The invariant at the reset values, over any canonical tables (10_state R49, R50). -/
theorem inv_resetRegisters {s : State} (h : s.mem.wf = true) : Inv s.resetRegisters :=
  ⟨by simp, by simp, by simp, by simp, h⟩

/-- Every effect keeps the invariant (10_state R50). -/
theorem Effect.inv {s t : State} {i : Instr} (he : Effect s i t) (h : Inv s) : Inv t := by
  cases he with
  | ctrl m d sh hl =>
    obtain ⟨-, hrest⟩ := h
    exact ⟨hl, hrest⟩
  | amp d =>
    obtain ⟨hwlen, -, hrest⟩ := h
    exact ⟨hwlen, ampOfData_le_ampMax d, hrest⟩
  | entry hk d =>
    obtain ⟨hwlen, hamp, hpctl, hvctl, hmem⟩ := h
    exact ⟨hwlen, hamp, hpctl, hvctl, memWrite_wf _ _ _ _ hmem hk⟩
  | tick p v => exact inv_tickWith _ p v h
  | reset =>
    obtain ⟨-, -, -, -, hmem⟩ := h
    exact inv_resetRegisters hmem
  | _ => exact h

/-- An unshaped sample is at most 32736 in magnitude: 2^35 · 1023 · 2^20 / 2^50 (44_synthesis R212). -/
theorem abs_synthSample_le {s : State} (hamp : s.amp.toNat ≤ Config.ampMax) (hshape : s.shapeEn = false) :
    |synthSample s| ≤ 32736 := by
  have hscaled := scaleAmp_le (waveInterp s.mem s.wlen s.phase) s.amp Config.ampMax (waveInterp_range _ _ _) hamp
  rw [show (2 : Int) ^ 35 * (Config.ampMax : Nat) / 2 ^ 50 = 32736 by decide] at hscaled
  unfold synthSample
  split
  · simp
  · have hrendered : renderedSample s = scaleAmp (waveInterp s.mem s.wlen s.phase) s.amp := by
      simp [renderedSample, hshape]
    rw [hrendered, clamp_of_mem]
    · exact hscaled
    · rw [abs_le] at hscaled; omega

/-- Narrowing a value of that magnitude to `SAMPLE` loses nothing. -/
theorem abs_toInt_ofInt_16_le {v : Int} (h : |v| ≤ 32736) : |(BitVec.ofInt 16 v).toInt| ≤ 32736 := by
  rwa [toInt_ofInt_16]
  rw [abs_le] at h
  omega

/-- A TICK without shaping keeps `SAMPLE` within 32736 (10_state R50): it delivers such a sample, or none. -/
theorem tickWith_sample_le (p : Config.Params) (capP capV : Capture) {s : State} (hamp : s.amp.toNat ≤ Config.ampMax)
    (hshape : s.shapeEn = false) (h : |s.sample.toInt| ≤ 32736) :
    |(tickWith p capP capV s).sample.toInt| ≤ 32736 := by
  obtain ⟨-, -, -, htick, -⟩ := tickWith_synthesis p capP capV s
  rw [htick, partS_sample]
  split
  · refine abs_toInt_ofInt_16_le (abs_synthSample_le ?_ ?_)
    · simpa [ampPart] using smoothAmp_le_ampMax p s.mem s.vctl hamp
    · simpa [ampPart] using hshape
  · exact h

/-- Without shaping every effect keeps `SAMPLE` within 32736 (10_state R50): only TICK and RESET write it. -/
theorem Effect.sample_le {s t : State} {i : Instr} (he : Effect s i t) (hamp : s.amp.toNat ≤ Config.ampMax)
    (hshape : s.shapeEn = false) (h : |s.sample.toInt| ≤ 32736) : |t.sample.toInt| ≤ 32736 := by
  cases he with
  | tick p v => exact tickWith_sample_le _ p v hamp hshape h
  | reset => simp
  | _ => exact h

end Sys2Proof.Laws
end

section
/-! SUPPORT. `load` (30_encoding R101): its words, its operations, and the tables after a run whose table writes are its
own. -/

namespace Sys2Proof.Laws

open Sys2Proof.Machine

/-- The operations of a `load` (30_encoding R101). -/
def loadWrites (t : TableName) : Nat → List Word → List Instr
  | _, [] => []
  | lo, d :: ds => entryWrite t lo d :: loadWrites t (lo + 1) ds

/-- The tables after the writes of a `load`. -/
def loadMem (t : TableName) : Nat → List Word → Memory → Memory
  | _, [], m => m
  | lo, d :: ds, m => loadMem t (lo + 1) ds (memWrite m t lo (entryOfData t d))

/-- The write word at an entry's address is that entry's write (20_memory R66, 30_encoding R96). -/
theorem decode_entryWord {t : TableName} {k : Nat} (h : k < tableSize t) (d : Word) :
    decode (writeWord (entryAddr t k) d) = entryWrite t k d := by
  rw [decode_writeWord, decodeWrite]
  cases t with
  | ptab => rw [addrTarget_ptab k h]; rfl
  | vtab => rw [addrTarget_vtab k h]; rfl
  | stab => rw [addrTarget_stab k h]; rfl
  | wtab => rw [addrTarget_wtab k h]; rfl

/-- A stored entry reads back as the data brought into the entry's range (20_memory R64). -/
theorem storedValue_entryOfData (t : TableName) (d : Word) : storedValue t (entryOfData t d) = entryOfData t d := by
  have hs16 := clamp_bounds (v := asS32 d) (lo := -32768) (hi := 32767) (by norm_num)
  have hd := d.isLt
  cases t with
  | ptab => exact toNat_ofInt_of_mem (by simp [entryOfData, ptabOfData]) (by simp [entryOfData, ptabOfData]; omega)
  | vtab => exact toNat_ofInt_of_mem (by simp [entryOfData, vtabOfData]) (by simp [entryOfData, vtabOfData])
  | stab => exact toInt_ofInt_16 hs16
  | wtab => exact toInt_ofInt_16 hs16

/-- The words of a `load` inside the table exist and decode to its operations (30_encoding R100, R101). -/
theorem assembleAll_pseudoLoad (t : TableName) (lo : Nat) (ds : List Word) (h : lo + ds.length ≤ tableSize t) :
    ∃ ws : List EventWord, assembleAll (pseudoLoad t lo ds) = some ws ∧ ws.map decode = loadWrites t lo ds := by
  induction ds generalizing lo with
  | nil => exact ⟨[], rfl, rfl⟩
  | cons d ds ih =>
    rw [List.length_cons] at h
    obtain ⟨ws, hws, hdecode⟩ := ih (lo + 1) (by omega)
    have hlo : lo < tableSize t := by omega
    refine ⟨writeWord (entryAddr t lo) d :: ws, ?_, ?_⟩
    · simp [pseudoLoad, assembleAll, assemble, hlo, hws]
    · rw [List.map_cons, hdecode, decode_entryWord hlo]; rfl

/-- A `load` performed alone is one of the event lists its statement is about. -/
theorem tableWritesAre_loadWrites (t : TableName) (lo : Nat) (ds : List Word) :
    TableWritesAre (loadWrites t lo ds) (loadWrites t lo ds) := by
  induction ds generalizing lo with
  | nil => rfl
  | cons d ds ih => exact .inr ⟨writesTable_entryWrite t lo d, _, rfl, ih (lo + 1)⟩

/-- Events whose table writes are those of a `load` all complete and leave the tables the `load` alone would leave: an
event that writes no table keeps them (20_memory R71). -/
theorem performs_load (t : TableName) (is : List Instr) (lo : Nat) (ds : List Word) (s : State)
    (hsize : lo + ds.length ≤ tableSize t) (h : TableWritesAre is (loadWrites t lo ds)) :
    ∃ u : State, Performs is s u ∧ u.mem = loadMem t lo ds s.mem := by
  induction is generalizing lo ds s with
  | nil =>
    cases ds with
    | nil => exact ⟨s, rfl, rfl⟩
    | cons d ds => exact nomatch h
  | cons i is ih =>
    rcases h with ⟨hother, hrest⟩ | ⟨_, tail, heq, hrest⟩
    · obtain ⟨r, hexec, heffect⟩ := exec_effect i s
      obtain ⟨u, hperforms, hmem⟩ := ih lo ds r hsize hrest
      exact ⟨u, ⟨r, hexec, hperforms⟩, by rw [hmem, heffect.mem_eq hother]⟩
    · cases ds with
      | nil => exact nomatch heq
      | cons d ds =>
        obtain ⟨rfl, rfl⟩ := List.cons.inj heq
        rw [List.length_cons] at hsize
        obtain ⟨u, hperforms, hmem⟩ :=
          ih (lo + 1) ds ((s.setEntry t lo (entryOfData t d)).answer false 0#32) (by omega) hrest
        exact ⟨u, ⟨_, exec_entryWrite (by omega) d s, hperforms⟩, hmem⟩

/-- A `load` keeps every entry outside its own (30_encoding R101). -/
theorem memRead_loadMem_other {t x : TableName} {lo j : Nat} {ds : List Word} (m : Memory)
    (h : x ≠ t ∨ j < lo ∨ lo + ds.length ≤ j) : memRead (loadMem t lo ds m) x j = memRead m x j := by
  induction ds generalizing lo m with
  | nil => rfl
  | cons d ds ih =>
    rw [List.length_cons] at h
    rw [loadMem, ih _ (h.imp_right (by omega)), memRead_memWrite, if_neg]
    rintro ⟨hx, hj⟩
    exact h.elim (absurd hx) (by omega)

/-- Entry `lo + k` after a `load` holds data word `k`, brought into its range (30_encoding R101). -/
theorem memRead_loadMem_loaded (t : TableName) {lo k : Nat} {ds : List Word} {d : Word} (m : Memory)
    (h : ds[k]? = some d) : memRead (loadMem t lo ds m) t (lo + k) = entryOfData t d := by
  induction ds generalizing lo k m with
  | nil => simp at h
  | cons e ds ih =>
    rw [loadMem]
    cases k with
    | zero =>
      obtain rfl : e = d := by simpa using h
      rw [memRead_loadMem_other _ (by omega), memRead_memWrite, if_pos (by simp), storedValue_entryOfData]
    | succ k =>
      rw [← Nat.add_assoc, Nat.add_right_comm]
      exact ih _ (by simpa using h)

end Sys2Proof.Laws
end

section
/-! SUPPORT. The waveform index mask (10_state R39, 44_synthesis R203). -/

namespace Sys2Proof.Laws

open Sys2Proof.Machine

/-- Masking by `WMASK` is the remainder by the table length, which is a power of two (10_state R39). -/
theorem and_wmask (l : BitVec 2) (n : Nat) : n &&& wmask l = n % (1024 * 2 ^ l.toNat) := by
  have hlen : 1024 * 2 ^ l.toNat = 2 ^ (10 + l.toNat) := by rw [pow_add]; norm_num
  rw [wmask, hlen, Nat.and_two_pow_sub_one_eq_mod]

/-- The length a legal `WLEN` selects fits in the physical table (10_state R25, R43). -/
theorem waveLength_le_tableSize {l : BitVec 2} (h : l ≠ 3#2) : 1024 * 2 ^ l.toNat ≤ tableSize .wtab := by
  have hle : l.toNat ≤ 2 := by
    have := l.isLt
    have : l.toNat ≠ 3 := fun h3 => h (BitVec.eq_of_toNat_eq h3)
    omega
  exact Nat.mul_le_mul_left 1024 (Nat.pow_le_pow_right (by norm_num) hle)

end Sys2Proof.Laws
end

section
/-! The statements on the state: the invariant of 10_state R50, who may change which component, RESET, `load`, and the
waveform indices. -/

open Sys2Proof Sys2Proof.Machine Sys2Proof.Laws

/-- Settles O45, by the effects of the event performed; taking it off the port touches no register. -/
theorem everyStepKeepsTheInvariant : Obligations.EveryStepKeepsTheInvariant := by
  intro s t hinv hstep
  have hpop : Inv s.popEvent := hinv
  exact (effect_of_exec hstep).inv hpop

/-- Settles O46, by the effects of the event performed. -/
theorem unshapedSampleStaysWithin32736 : Obligations.UnshapedSampleStaysWithin32736 := by
  intro s t ⟨_, hamp, _⟩ hshape hsample hstep _
  exact (effect_of_exec hstep).sample_le hamp hshape hsample

/-- Settles O24: the tables after the run are those of the `load` alone, read entry by entry. -/
theorem loadStoresConsecutiveEntries : Obligations.LoadStoresConsecutiveEntries := by
  intro t lo ds hsize
  obtain ⟨ws, hassemble, hdecode⟩ := assembleAll_pseudoLoad t lo ds hsize
  refine ⟨ws, hassemble, ?_, ?_⟩
  · rw [hdecode]; exact tableWritesAre_loadWrites t lo ds
  · intro s is his
    rw [hdecode] at his
    obtain ⟨u, hperforms, hmem⟩ := performs_load t is lo ds s hsize his
    refine ⟨u, hperforms, fun k d hk => ?_, fun x j hj => ?_⟩
    · rw [hmem, memRead_loadMem_loaded t s.mem hk]
      have hs16 : s16OfData d = max (-32768) (min d.toInt 32767) := clamp_eq_max_min (by norm_num)
      cases t with
      | ptab | vtab => rfl
      | stab | wtab => exact hs16
    · rw [hmem, memRead_loadMem_other s.mem hj]

/-- Settles O39, from the effects of an event. -/
theorem onlyTableWritesChangeTables : Obligations.OnlyTableWritesChangeTables := by
  intro s i hw
  obtain ⟨t, hexec, heffect⟩ := exec_effect i s
  exact ⟨t, hexec, heffect.mem_eq hw⟩

/-- Settles O40, by the effects of an event: each names the one register it writes. -/
theorem registersChangeOnlyByTheirWriters : Obligations.RegistersChangeOnlyByTheirWriters := by
  intro s i hreset
  obtain ⟨t, hexec, heffect⟩ := exec_effect i s
  refine ⟨t, hexec, ?_⟩
  cases heffect with
  | reset => exact absurd rfl hreset
  | tick p v => simp
  | ctrl => exact ⟨fun h => absurd rfl (h _ _ _ _), by simp⟩
  | rejected | answered | entry | evrsv => simp
  | pofs d | vofs d | fpitch d | fvol d | phase d | amp d => simp

/-- Settles O41. -/
theorem portFieldsAreNeverRead : Obligations.PortFieldsAreNeverRead := by
  intro s i r e ws
  obtain ⟨t, hexec⟩ := exec_completes i s
  exact ⟨exec_withPorts i s r e, t, hexec, exec_withPending hexec ws⟩

/-- Settles O56: the mask is a remainder by a power of two. -/
theorem waveIndicesWrapInsideTheTable : Obligations.WaveIndicesWrapInsideTheTable := by
  intro l phase hl
  have hpos : 0 < 1024 * 2 ^ l.toNat := by positivity
  rw [waveIdx0, waveIdx1, and_wmask, and_wmask]
  exact ⟨rfl, rfl, Nat.mod_lt _ hpos, Nat.mod_lt _ hpos, waveLength_le_tableSize hl⟩

/-- Settles O42: RESET names every register and nothing else. -/
theorem resetEventSetsEveryRegister : Obligations.ResetEventSetsEveryRegister := by
  intro s
  refine ⟨s.resetRegisters.silent, rfl, rfl, rfl, fun w hport => ?_⟩
  rw [decode, hport]
  rfl

/-- Settles O44: the reset values meet the invariant over any canonical tables. -/
theorem resetStateSatisfiesTheInvariant : Obligations.ResetStateSatisfiesTheInvariant :=
  inv_resetRegisters (s := State.reset) reset_mem_wf
end

section
/-! SUPPORT. Host reads (20_memory R65, R66): which operations a read word names, what a read leaves, and the table entry
it answers. -/

namespace Sys2Proof.Laws

open Sys2Proof.Machine

/-! ### Every read -/

/-- A word of the host port with operation code 2 decodes by its address alone. -/
theorem decode_of_readFields {w : EventWord} (hport : portOf w = 0#2) (hop : opOf w = 2#2) :
    decode w = decodeRead (addrOf w) := by
  simp [decode, decodeHost, hport, hop]

/-- Whatever a read decodes to carries operation code 2, reserved addresses included (30_encoding R87). -/
theorem formatOf_decodeRead (a : HostAddr) : EncodedFields.formatOf (decodeRead a) = (0#2, some 2#2) := by
  unfold decodeRead
  split <;> rfl

/-- An operation of code 2 leaves its response and nothing else, whether it is answered or rejected (20_memory R65). -/
theorem exec_of_readFormat {i : Instr} (hread : EncodedFields.formatOf i = (0#2, some 2#2)) (s : State) :
    ∃ (err : Bool) (v : Word), exec i s = .next (s.answer err v) := by
  obtain ⟨t, hexec, heffect⟩ := exec_effect i s
  cases heffect with
  | rejected => exact ⟨true, 0#32, hexec⟩
  | answered v => exact ⟨false, v, hexec⟩
  | @entry table k _ d => cases table <;> cases hread
  | _ => cases hread

/-- An operation performs the same whatever the latest response was. -/
theorem exec_answer (i : Instr) (s : State) (err : Bool) (v : Word) : exec i (s.answer err v) = exec i s :=
  exec_withPorts i s (some { err := err, rdata := v }) none

/-- A response is no state of the block (10_state R20, 30_encoding R92). -/
@[simp] theorem block_answer (s : State) (err : Bool) (v : Word) : (s.answer err v).block = s.block := rfl

/-! ### Table reads -/

/-- The operation that reads entry `k` of a table (40_host_access section 7). -/
def entryRead : TableName → Nat → Instr
  | .ptab, k => .rdPtab (BitVec.ofNat 11 k)
  | .vtab, k => .rdVtab (BitVec.ofNat 10 k)
  | .stab, k => .rdStab (BitVec.ofNat 8 k)
  | .wtab, k => .rdWtab (BitVec.ofNat 12 k)

/-- The address of an entry whose index is a word: base plus index, as 20_memory R66 writes it. -/
theorem entryAddr_toNat (t : TableName) {w : Nat} (a : BitVec w) :
    entryAddr t a.toNat = tableBase t + a.setWidth 14 := by
  rw [entryAddr, BitVec.ofNat_toNat]

/-- A read at an entry's address is that entry's read, whatever its data (30_encoding R96, R98 g). -/
theorem decode_readEntry {t : TableName} {k : Nat} (h : k < tableSize t) (x : Word) :
    decode (hostWord 2#2 (entryAddr t k) x) = entryRead t k := by
  rw [decode_of_readFields (portOf_hostWord _ _ _) (opOf_hostWord _ _ _), addrOf_hostWord, decodeRead]
  cases t with
  | ptab => rw [addrTarget_ptab k h]; rfl
  | vtab => rw [addrTarget_vtab k h]; rfl
  | stab => rw [addrTarget_stab k h]; rfl
  | wtab => rw [addrTarget_wtab k h]; rfl

/-- The same with the index as a word and the address as base plus index. -/
theorem decode_readEntry_word (t : TableName) {w : Nat} (a : BitVec w) (h : a.toNat < tableSize t) (x : Word) :
    decode (hostWord 2#2 (tableBase t + a.setWidth 14) x) = entryRead t a.toNat := by
  rw [← entryAddr_toNat, decode_readEntry h]

/-- A value of u32, read into a 32-bit word, is zero extended (20_memory R64). -/
theorem toNat_asU32 {v : Int} (h : 0 ≤ v ∧ v < 2 ^ 32) : ((asU32 v).toNat : Int) = v :=
  toNat_ofInt_of_mem h.1 h.2

/-- A value of s16, read into a 32-bit word, is sign extended (20_memory R64). -/
theorem toInt_asU32 {v : Int} (h : -32768 ≤ v ∧ v ≤ 32767) : (asU32 v).toInt = v :=
  toInt_ofInt_32 (by omega)

end Sys2Proof.Laws
end

section
/-! SUPPORT. The events of one boundary (60_exceptions R252), by the strobes that are set, and what the next step makes of
them. -/

namespace Sys2Proof.Laws

open Sys2Proof.Machine

theorem decode_resetWord : decode resetWord = .reset := by decide

/-- RESET is presented alone. -/
theorem events_of_rst {b : Boundary} (h : b.rst = true) : b.events = [resetWord] := if_pos h

/-- Without RESET: the TICK if there is one, then the host command if there is one. -/
theorem events_of_not_rst {b : Boundary} (h : b.rst = false) :
    b.events = (if b.tick then [tickWord b.capP b.capV] else []) ++
      (if b.hOp = 0#2 then [] else [hostWord b.hOp b.hAddr b.hWdata]) := by
  simp [Boundary.events, Boundary.tickEvents, Boundary.hostEvents, h]

/-- A state with nothing pending is what it is with its pending events taken away. -/
theorem withPending_nil {s : State} (h : s.pending = []) : { s with pending := [] } = s := by
  rw [← h]

/-- A boundary presented with nothing pending: its events are all that is pending. -/
theorem present_of_idle {s : State} (h : s.pending = []) (b : Boundary) :
    s.present b = { s with pending := b.events } := by
  rw [State.present, h, List.nil_append]

/-- The next step performs the first event of the boundary; the others stay pending. -/
theorem step_present_cons {s : State} {b : Boundary} {w : EventWord} {rest : List EventWord} (h : s.pending = [])
    (hevents : b.events = w :: rest) : step (s.present b) = exec (decode w) { s with pending := rest } := by
  rw [present_of_idle h, hevents, step_cons _ w rest rfl]

/-- The next step performs the one event of the boundary on the state it was presented in. -/
theorem step_present_singleton {s : State} {b : Boundary} {w : EventWord} (h : s.pending = [])
    (hevents : b.events = [w]) : step (s.present b) = exec (decode w) s := by
  rw [step_present_cons h hevents, withPending_nil h]

/-- A TICK completes and keeps the events still to come. -/
theorem exec_tick_keeps_pending (p v : Capture) (s : State) :
    ∃ t : State, exec (.tick p v) s = .next t ∧ t.pending = s.pending :=
  ⟨tickWith Config.params p v s, rfl, tickWith_pending Config.params p v s⟩

end Sys2Proof.Laws
end

section
/-! The statements of 20_memory: the order of the events of one boundary, table reads, host reads without side effect, and
the step as one whole event. -/

open Sys2Proof Sys2Proof.Machine Sys2Proof.Laws

/-- Settles O9, by the strobes of the boundary: each case names the events presented, and the step takes the first. -/
theorem boundaryEventsAreOrdered : Obligations.BoundaryEventsAreOrdered := by
  intro s b hidle
  refine ⟨fun hrst => ?reset, fun hrst htick hop => ?tick, fun hrst htick hop => ?tickThenHost,
    fun hrst htick hop => ?host, fun hrst htick hop => ?nothing⟩
  case reset => rw [step_present_singleton hidle (events_of_rst hrst), decode_resetWord]
  case tick =>
    have hevents : b.events = [tickWord b.capP b.capV] := by simp [events_of_not_rst hrst, htick, hop]
    rw [step_present_singleton hidle hevents, decode_tickWord]
  case tickThenHost =>
    have hevents : b.events = [tickWord b.capP b.capV, hostWord b.hOp b.hAddr b.hWdata] := by
      simp [events_of_not_rst hrst, htick, hop]
    obtain ⟨t, hexec, hpending⟩ := exec_tick_keeps_pending b.capP b.capV s
    refine ⟨t, { t with pending := [hostWord b.hOp b.hAddr b.hWdata] }, hexec, ?_, rfl, ?_⟩
    · rw [step_present_cons hidle hevents, decode_tickWord, exec_withPending hexec]
    · rw [step_cons _ _ [] rfl, decode_hostWord, withPending_nil (hpending.trans hidle)]
  case host =>
    have hevents : b.events = [hostWord b.hOp b.hAddr b.hWdata] := by simp [events_of_not_rst hrst, htick, hop]
    rw [step_present_singleton hidle hevents, decode_hostWord]
  case nothing =>
    have hevents : b.events = [] := by simp [events_of_not_rst hrst, htick, hop]
    rw [present_of_idle hidle, hevents, withPending_nil hidle]

/-- Settles O12: an entry's address names its read, and the entry's range fits the word that answers it. -/
theorem tableReadsAnswerTheEntry : Obligations.TableReadsAnswerTheEntry := by
  refine ⟨fun x a b c d => ⟨?_, ?_, ?_, ?_⟩, fun s a b c d => ?_⟩
  · simpa [entryRead, tableBase] using decode_readEntry_word .ptab a a.isLt x
  · simpa [entryRead, tableBase] using decode_readEntry_word .vtab b b.isLt x
  · simpa [entryRead, tableBase] using decode_readEntry_word .stab c c.isLt x
  · simpa [entryRead, tableBase] using decode_readEntry_word .wtab d d.isLt x
  · have hvtab := memRead_vtab_range s.mem b.toNat
    exact ⟨asU32 (memRead s.mem .ptab a.toNat), asU32 (memRead s.mem .vtab b.toNat),
      asU32 (memRead s.mem .stab c.toNat), asU32 (memRead s.mem .wtab d.toNat),
      toNat_asU32 (memRead_ptab_range _ _), toNat_asU32 (by omega),
      toInt_asU32 (memRead_stab_range _ _), toInt_asU32 (memRead_wtab_range _ _), rfl, rfl, rfl, rfl⟩

/-- Settles O22: a read leaves only its response, and no operation looks at the latest response. -/
theorem hostReadsHaveNoSideEffect : Obligations.HostReadsHaveNoSideEffect := by
  intro s w hport hop
  rw [decode_of_readFields hport hop]
  obtain ⟨err, v, hexec⟩ := exec_of_readFormat (formatOf_decodeRead (addrOf w)) s
  exact ⟨s.answer err v, hexec, block_answer s err v, (exec_answer _ s err v).trans hexec⟩

/-- Settles O6, by what a step does with an event pending. -/
theorem stepPerformsTheNextPendingEvent : Obligations.StepPerformsTheNextPendingEvent := by
  intro s w rest i hpending hdecode
  rw [step_cons s w rest hpending, hdecode]
end

section
/-! SUPPORT. The fields of an event word, what an address names, and the operation a word of each port decodes to
(30_encoding R85 to R89, R96; 20_memory R66). -/

namespace Sys2Proof.Laws

open Sys2Proof.Machine

/-! ### Fields -/

/-- An event word is its port, operation code, address and data, from the top bit down (30_encoding R85, R87). -/
theorem toNat_eq_fields (w : EventWord) :
    w.toNat = (portOf w).toNat * 2 ^ 48 + (opOf w).toNat * 2 ^ 46 + (addrOf w).toNat * 2 ^ 32 + (dataOf w).toNat := by
  simp only [portOf, opOf, addrOf, dataOf, BitVec.extractLsb'_toNat, Nat.shiftRight_eq_div_pow]
  omega

/-- The four values of a port or an operation code. -/
theorem bitVec2_cases (x : BitVec 2) : x = 0#2 ∨ x = 1#2 ∨ x = 2#2 ∨ x = 3#2 := by
  revert x; decide

/-- The data word of a `WR.CTRL` gives its four fields back (40_host_access R112). -/
theorem ctrlData_fields (m v s : Bool) (l : BitVec 2) :
    (ctrlData m v s l).getLsbD 0 = m ∧ (ctrlData m v s l).getLsbD 1 = v ∧ (ctrlData m v s l).getLsbD 2 = s ∧
      (ctrlData m v s l).extractLsb' 4 2 = l := by
  revert m v s l; decide

/-! ### Addresses -/

/-- A register's address names it (20_memory R66). -/
@[simp] theorem addrTarget_regAddr (r : RegName) : addrTarget (regAddr r) = .reg r := by
  cases r <;> rfl

/-- Only its own address names a register. -/
theorem eq_regAddr_of_regAt {a : HostAddr} {r : RegName} (h : regAt a.toNat = some r) : a = regAddr r := by
  apply BitVec.eq_of_toNat_eq
  unfold regAt at h
  split at h <;> cases h <;> assumption

theorem le_of_regAt_eq_none {n : Nat} (h : regAt n = none) : 0x000E ≤ n := by
  by_contra hlt
  have : n < 14 := by omega
  interval_cases n <;> cases h

/-- The first address of a register or table (20_memory R66). -/
def firstAddr : Target → HostAddr
  | .reg r => regAddr r
  | .ptab _ => tableBase .ptab
  | .vtab _ => tableBase .vtab
  | .stab _ => tableBase .stab
  | .wtab _ => tableBase .wtab
  | .reserved => 0#14

/-- How many addresses a register or table has (20_memory R66). -/
def addrCount : Target → Nat
  | .reg _ => 1
  | .ptab _ => tableSize .ptab
  | .vtab _ => tableSize .vtab
  | .stab _ => tableSize .stab
  | .wtab _ => tableSize .wtab
  | .reserved => 0

theorem reservedAddr_iff (a : HostAddr) : reservedAddr a = true ↔
    (0x000E ≤ a.toNat ∧ a.toNat < 0x0800) ∨ (0x1500 ≤ a.toNat ∧ a.toNat < 0x2000) ∨ 0x3000 ≤ a.toNat := by
  have ha := a.isLt
  simp [reservedAddr]
  omega

theorem reservedAddr_eq_false_iff (a : HostAddr) : reservedAddr a = false ↔
    a.toNat < 0x000E ∨ (0x0800 ≤ a.toNat ∧ a.toNat < 0x1500) ∨ (0x2000 ≤ a.toNat ∧ a.toNat < 0x3000) := by
  rw [← Bool.not_eq_true, reservedAddr_iff]
  omega

/-- Either an address is reserved and names nothing, or it lies in the window of what it names (20_memory R66). -/
theorem addrTarget_cases (a : HostAddr) :
    (addrTarget a = .reserved ∧ reservedAddr a = true) ∨
      (addrTarget a ≠ .reserved ∧ reservedAddr a = false ∧ (firstAddr (addrTarget a)).toNat ≤ a.toNat ∧
        a.toNat < (firstAddr (addrTarget a)).toNat + addrCount (addrTarget a)) := by
  rw [reservedAddr_iff, reservedAddr_eq_false_iff]
  unfold addrTarget
  split
  · split
    · next r h =>
      rw [eq_regAddr_of_regAt h]
      exact .inr ⟨Target.noConfusion, by cases r <;> decide, le_rfl, Nat.lt_succ_self _⟩
    · next h =>
      have := le_of_regAt_eq_none h
      exact .inl ⟨rfl, by omega⟩
  next hptab =>
  split
  · next h => exact .inr ⟨Target.noConfusion, by omega, not_lt.1 hptab, h⟩
  next hvtab =>
  split
  · next h => exact .inr ⟨Target.noConfusion, by omega, not_lt.1 hvtab, h⟩
  next hstab =>
  split
  · next h => exact .inr ⟨Target.noConfusion, by omega, not_lt.1 hstab, h⟩
  split
  · exact .inl ⟨rfl, by omega⟩
  next hwtab =>
  split
  · next h => exact .inr ⟨Target.noConfusion, by omega, not_lt.1 hwtab, h⟩
  · exact .inl ⟨rfl, by omega⟩

/-- A reserved address is one that names nothing (40_host_access R146). -/
theorem addrTarget_eq_reserved_iff (a : HostAddr) : addrTarget a = .reserved ↔ reservedAddr a = true := by
  rcases addrTarget_cases a with ⟨htarget, hres⟩ | ⟨htarget, hres, -⟩ <;> simp [htarget, hres]

/-! ### Decoding by port and operation code -/

theorem decode_of_hostPort {w : EventWord} (h : portOf w = 0#2) :
    decode w = decodeHost (opOf w) (addrOf w) (dataOf w) := if_pos h

theorem decode_of_tickPort {w : EventWord} (h : portOf w = 1#2) : decode w = .tick (capPOf w) (capVOf w) := by
  simp [decode, h]

theorem decode_of_resetPort {w : EventWord} (h : portOf w = 2#2) : decode w = .reset := by simp [decode, h]

theorem decode_of_reservedPort {w : EventWord} (h : portOf w = 3#2) : decode w = .evrsv := by simp [decode, h]

@[simp] theorem decodeHost_idle (a : HostAddr) (d : Word) : decodeHost 0#2 a d = .hnop := rfl

@[simp] theorem decodeHost_write (a : HostAddr) (d : Word) : decodeHost 1#2 a d = decodeWrite a d := rfl

@[simp] theorem decodeHost_read (a : HostAddr) (d : Word) : decodeHost 2#2 a d = decodeRead a := rfl

@[simp] theorem decodeHost_reserved (a : HostAddr) (d : Word) : decodeHost 3#2 a d = .hrsv := rfl

/-- A command of the host port carries its operation code, whatever its address (30_encoding R87). -/
theorem formatOf_decodeHost (op : BitVec 2) (a : HostAddr) (d : Word) :
    EncodedFields.formatOf (decodeHost op a d) = (0#2, some op) := by
  rcases bitVec2_cases op with rfl | rfl | rfl | rfl
  · rfl
  · rw [decodeHost_write, decodeWrite]
    split <;> rfl
  · exact formatOf_decodeRead a
  · rfl

/-! ### Well-formed operations -/

theorem wellFormed_decodeWrite (a : HostAddr) (d : Word) : (decodeWrite a d).wellFormed = true := by
  rw [decodeWrite]
  cases htarget : addrTarget a with
  | reserved => exact (addrTarget_eq_reserved_iff a).1 htarget
  | reg r => cases r <;> rfl
  | ptab | vtab | stab | wtab => rfl

theorem wellFormed_decodeRead (a : HostAddr) : (decodeRead a).wellFormed = true := by
  rw [decodeRead]
  cases htarget : addrTarget a with
  | reserved => exact (addrTarget_eq_reserved_iff a).1 htarget
  | reg r => cases r <;> rfl
  | ptab | vtab | stab | wtab => rfl

theorem wellFormed_decodeHost (op : BitVec 2) (a : HostAddr) (d : Word) : (decodeHost op a d).wellFormed = true := by
  rcases bitVec2_cases op with rfl | rfl | rfl | rfl
  · rfl
  · exact wellFormed_decodeWrite a d
  · exact wellFormed_decodeRead a
  · rfl

/-! ### Encoding -/

/-- The word of an operation decodes to it. -/
theorem decode_encode {i : Instr} (h : i.wellFormed = true) : decode (encode i) = i := by
  cases i with
  | wrCtrl m v s l =>
    obtain ⟨hm, hv, hs, hl⟩ := ctrlData_fields m v s l
    rw [encode, decode_writeWord, decodeWrite, addrTarget_regAddr, hm, hv, hs, hl]
  | wrPofs | wrVofs | wrFpitch | wrFvol | wrPhase | wrAmp
  | wrRoStatus | wrRoPctl | wrRoVctl | wrRoCapp | wrRoCapv | wrRoSample | wrRoStep => simp [encode, decodeWrite]
  | rdCtrl | rdStatus | rdPofs | rdVofs | rdFpitch | rdFvol | rdPhase | rdAmp | rdPctl | rdVctl | rdCapp | rdCapv
  | rdSample | rdStep => simp [encode, decodeRead]
  | wrPtab k d | wrVtab k d | wrStab k d | wrWtab k d =>
    rw [encode, decode_entryWord k.isLt, entryWrite, BitVec.ofNat_toNat, BitVec.setWidth_eq]
  | rdPtab k | rdVtab k | rdStab k | rdWtab k =>
    rw [encode, readWord, decode_readEntry k.isLt, entryRead, BitVec.ofNat_toNat, BitVec.setWidth_eq]
  | wrRsvd a => simp [encode, decodeWrite, (addrTarget_eq_reserved_iff a).2 h]
  | rdRsvd a => simp [encode, decodeRead, (addrTarget_eq_reserved_iff a).2 h]
  | hnop => rw [encode, decode_hostWord, decodeHost_idle]
  | hrsv => rw [encode, decode_hostWord, decodeHost_reserved]
  | tick p v => exact decode_tickWord p v
  | reset => exact decode_resetWord
  | evrsv => decide

end Sys2Proof.Laws
end

section
/-! SUPPORT. The operation map (30_encoding R96): a row is a window of consecutive event words. The windows above
`WR.RSVD` are disjoint, and so are the five below; between them they cover every word, each with the row of its
operation. -/

namespace Sys2Proof.Laws

open Sys2Proof.Machine

/-! ### Rows that match no common word -/

/-- Two rows ask for different values of a bit both look at. -/
abbrev Apart (r q : OpRow) : Prop := r.pat &&& q.mask ≠ q.pat &&& r.mask

theorem pairwise_apart_upperRows : (registerRows ++ windowRows).Pairwise Apart := by decide

theorem pairwise_apart_fallThroughRows : fallThroughRows.Pairwise Apart := by decide

theorem not_apart_of_matches {w : EventWord} {r q : OpRow} (hr : rowMatches w r = true) (hq : rowMatches w q = true) :
    ¬ Apart r q := by
  rw [rowMatches, beq_iff_eq] at hr hq
  rw [not_not, ← hr, ← hq, BitVec.and_assoc, BitVec.and_assoc, BitVec.and_comm r.mask]

/-- Among rows apart a word matches at most one. -/
theorem eq_of_matches {l : List OpRow} (hl : l.Pairwise Apart) {w : EventWord} {r q : OpRow} (hr : r ∈ l)
    (hq : q ∈ l) (hwr : rowMatches w r = true) (hwq : rowMatches w q = true) : r = q := by
  by_contra hne
  have : Std.Symm Apart := ⟨fun _ _ h => h.symm⟩
  exact not_apart_of_matches hwr hwq (hl.forall hr hq hne)

/-- Among rows apart the first row a word matches is the one it matches. -/
theorem find?_eq_of_matches {l : List OpRow} (hl : l.Pairwise Apart) {w : EventWord} {r : OpRow} (hr : r ∈ l)
    (hwr : rowMatches w r = true) : l.find? (rowMatches w) = some r := by
  cases hfind : l.find? (rowMatches w) with
  | none => exact absurd hwr (List.find?_eq_none.1 hfind r hr)
  | some q => rw [eq_of_matches hl hr (List.mem_of_find?_eq_some hfind) hwr (List.find?_some hfind)]

/-- A matching row above `WR.RSVD` is the first. -/
theorem firstRow_of_upper {w : EventWord} {r : OpRow} (hr : r ∈ registerRows ++ windowRows)
    (hwr : rowMatches w r = true) : firstRow w = some r := by
  rw [firstRow, opRows, List.find?_append, find?_eq_of_matches pairwise_apart_upperRows hr hwr, Option.some_or]

/-- Where no row above `WR.RSVD` matches, a matching row from there on is the first. -/
theorem firstRow_of_fallThrough {w : EventWord} {r : OpRow}
    (hnone : ∀ q ∈ registerRows ++ windowRows, ¬ rowMatches w q = true) (hr : r ∈ fallThroughRows)
    (hwr : rowMatches w r = true) : firstRow w = some r := by
  rw [firstRow, opRows, List.find?_append, List.find?_eq_none.2 hnone, Option.none_or,
    find?_eq_of_matches pairwise_apart_fallThroughRows hr hwr]

/-! ### Rows as windows -/

/-- How many event words a row matches: its mask is a run of top bits. -/
def rowSize (r : OpRow) : Nat := 2 ^ 50 - r.mask.toNat

/-- Masking all but the low `k` bits leaves the first word of a window of `2 ^ k`. -/
theorem and_allOnes_shiftLeft_toNat (w : EventWord) (k : Nat) :
    (w &&& BitVec.allOnes 50 <<< k).toNat = w.toNat / 2 ^ k * 2 ^ k := by
  rw [← BitVec.shiftLeft_ushiftRight, BitVec.toNat_shiftLeft, BitVec.toNat_ushiftRight, Nat.shiftRight_eq_div_pow,
    Nat.shiftLeft_eq, Nat.mod_eq_of_lt ((Nat.div_mul_le_self _ _).trans_lt w.isLt)]

/-- Every mask clears a run of low bits, and the row's word has none of them set. -/
theorem opRow_window : ∀ r ∈ opRows, ∃ k ∈ [32, 40, 42, 43, 44, 46, 48],
    r.mask = BitVec.allOnes 50 <<< k ∧ rowSize r = 2 ^ k ∧ 2 ^ k ∣ r.pat.toNat := by decide

/-- A row matches the words of its window. -/
theorem rowMatches_iff {r : OpRow} (hr : r ∈ opRows) (w : EventWord) :
    rowMatches w r = true ↔ r.pat.toNat ≤ w.toNat ∧ w.toNat < r.pat.toNat + rowSize r := by
  obtain ⟨k, -, hmask, hsize, c, hc⟩ := opRow_window r hr
  have hpos : 0 < 2 ^ k := by positivity
  rw [rowMatches, beq_iff_eq, ← BitVec.toNat_inj, hmask, and_allOnes_shiftLeft_toNat, hsize, hc,
    Nat.mul_comm (2 ^ k) c, Nat.mul_left_inj hpos.ne', Nat.div_eq_iff hpos]
  omega

theorem mem_opRows_of_upper {r : OpRow} (hr : r ∈ registerRows ++ windowRows) : r ∈ opRows :=
  List.mem_append_left _ hr

theorem mem_opRows_of_fallThrough {r : OpRow} (hr : r ∈ fallThroughRows) : r ∈ opRows :=
  List.mem_append_right _ hr

/-- The words of the host port come first, in the order of their operation codes and addresses. -/
theorem toNat_of_hostPort {w : EventWord} (h : portOf w = 0#2) :
    w.toNat = (opOf w).toNat * 2 ^ 46 + (addrOf w).toNat * 2 ^ 32 + (dataOf w).toNat := by
  simpa [h] using toNat_eq_fields w

/-- An assembled host word as a number. -/
theorem toNat_hostWord (op : BitVec 2) (a : HostAddr) (d : Word) :
    (hostWord op a d).toNat = op.toNat * 2 ^ 46 + a.toNat * 2 ^ 32 + d.toNat := by
  rw [toNat_of_hostPort (portOf_hostWord op a d), opOf_hostWord, addrOf_hostWord, dataOf_hostWord]

/-! ### The row of each operation -/

/-- An access to a register or a table entry has a row of its own: the words of its operation code at the addresses of
the register or table. -/
theorem exists_row_of_access {op : BitVec 2} (hop : op = 1#2 ∨ op = 2#2) {a : HostAddr}
    (ha : addrTarget a ≠ .reserved) (d : Word) :
    ∃ r ∈ registerRows ++ windowRows, r.mnemonic = mnemonicOf (decodeHost op a d) ∧
      r.pat = hostWord op (firstAddr (addrTarget a)) 0#32 ∧ rowSize r = addrCount (addrTarget a) * 2 ^ 32 := by
  rcases hop with rfl | rfl
  · rw [decodeHost_write, decodeWrite]
    generalize addrTarget a = t at ha ⊢
    cases t with
    | reg r => cases r <;> simp only [mnemonicOf] <;> decide
    | ptab | vtab | stab | wtab => simp only [mnemonicOf, firstAddr, addrCount]; decide
    | reserved => exact absurd rfl ha
  · rw [decodeHost_read, decodeRead]
    generalize addrTarget a = t at ha ⊢
    cases t with
    | reg r => cases r <;> simp only [mnemonicOf] <;> decide
    | ptab | vtab | stab | wtab => simp only [mnemonicOf, firstAddr, addrCount]; decide
    | reserved => exact absurd rfl ha

/-- The reserved addresses as ranges, each with its first address and the address after its last (20_memory R66). -/
def reservedRanges : List (Nat × Nat) := [(0x000E, 0x0800), (0x1500, 0x2000), (0x3000, 0x4000)]

theorem exists_reservedRange {a : HostAddr} (h : reservedAddr a = true) :
    ∃ g ∈ reservedRanges, g.1 ≤ a.toNat ∧ a.toNat < g.2 := by
  rcases (reservedAddr_iff a).1 h with h | h | h
  · exact ⟨(0x000E, 0x0800), by decide, h⟩
  · exact ⟨(0x1500, 0x2000), by decide, h⟩
  · exact ⟨(0x3000, 0x4000), by decide, h, a.isLt⟩

theorem upperRows_avoid_reserved : ∀ r ∈ registerRows ++ windowRows, ∀ op ∈ [1, 2], ∀ g ∈ reservedRanges,
    r.pat.toNat + rowSize r ≤ op * 2 ^ 46 + g.1 * 2 ^ 32 ∨ op * 2 ^ 46 + g.2 * 2 ^ 32 ≤ r.pat.toNat := by decide

theorem upperRows_below_tick : ∀ r ∈ registerRows ++ windowRows, r.pat.toNat + rowSize r ≤ 2 ^ 48 := by decide

/-- No row above `WR.RSVD` matches an access to a reserved address. -/
theorem not_upper_of_reserved {w : EventWord} (hport : portOf w = 0#2) (hop : opOf w = 1#2 ∨ opOf w = 2#2)
    (ha : reservedAddr (addrOf w) = true) : ∀ q ∈ registerRows ++ windowRows, ¬ rowMatches w q = true := by
  intro q hq hmatch
  obtain ⟨hlo, hhi⟩ := (rowMatches_iff (mem_opRows_of_upper hq) w).1 hmatch
  obtain ⟨g, hg, hglo, hghi⟩ := exists_reservedRange ha
  have havoid := upperRows_avoid_reserved q hq (opOf w).toNat (by rcases hop with h | h <;> simp [h]) g hg
  have hw := toNat_of_hostPort hport
  have hd := (dataOf w).isLt
  omega

/-- No row above `WR.RSVD` matches a word of another port. -/
theorem not_upper_of_port {w : EventWord} (hport : portOf w ≠ 0#2) :
    ∀ q ∈ registerRows ++ windowRows, ¬ rowMatches w q = true := by
  intro q hq hmatch
  obtain ⟨hlo, hhi⟩ := (rowMatches_iff (mem_opRows_of_upper hq) w).1 hmatch
  have hbelow := upperRows_below_tick q hq
  have hw := toNat_eq_fields w
  have hpos : (portOf w).toNat ≠ 0 := fun h => hport (BitVec.eq_of_toNat_eq h)
  omega

/-- A row that looks at port and operation code alone matches every host word of its code. -/
theorem rowMatches_of_opMask {w : EventWord} {r : OpRow} (hr : r ∈ opRows) (hmask : r.mask = 0x3C00000000000#50)
    (hport : portOf w = 0#2) (hpat : r.pat.toNat = (opOf w).toNat * 2 ^ 46) : rowMatches w r = true := by
  have hw := toNat_of_hostPort hport
  have hsize : rowSize r = 2 ^ 46 := by rw [rowSize, hmask]; rfl
  rw [rowMatches_iff hr]
  omega

/-- A row that looks at the port alone matches every word of its port. -/
theorem rowMatches_of_portMask {w : EventWord} {r : OpRow} (hr : r ∈ opRows) (hmask : r.mask = 0x3000000000000#50)
    (hpat : r.pat.toNat = (portOf w).toNat * 2 ^ 48) : rowMatches w r = true := by
  have hw := toNat_eq_fields w
  have hsize : rowSize r = 2 ^ 48 := by rw [rowSize, hmask]; rfl
  rw [rowMatches_iff hr]
  omega

/-- The first row of an access to a register or a table entry is the row of what its address names. -/
theorem firstRow_of_mapped {w : EventWord} (hport : portOf w = 0#2) (hop : opOf w = 1#2 ∨ opOf w = 2#2)
    (htarget : addrTarget (addrOf w) ≠ .reserved) :
    (firstRow w).map OpRow.mnemonic = some (mnemonicOf (decodeHost (opOf w) (addrOf w) (dataOf w))) := by
  obtain ⟨r, hr, hname, hpat, hsize⟩ := exists_row_of_access hop htarget (dataOf w)
  have hmatch : rowMatches w r = true := by
    have hw := toNat_of_hostPort hport
    have hfirst := toNat_hostWord (opOf w) (firstAddr (addrTarget (addrOf w))) 0#32
    obtain ⟨hres, -⟩ | ⟨-, -, hlo, hhi⟩ := addrTarget_cases (addrOf w)
    · exact absurd hres htarget
    rw [rowMatches_iff (mem_opRows_of_upper hr), hpat, hsize, hfirst, BitVec.toNat_ofNat]
    omega
  rw [firstRow_of_upper hr hmatch, Option.map_some, hname]

/-- The first row of an access to a reserved address is its operation code's fall-through row. -/
theorem firstRow_of_reserved {w : EventWord} (hport : portOf w = 0#2) (hop : opOf w = 1#2 ∨ opOf w = 2#2)
    (htarget : addrTarget (addrOf w) = .reserved) :
    (firstRow w).map OpRow.mnemonic = some (mnemonicOf (decodeHost (opOf w) (addrOf w) (dataOf w))) := by
  have hnone := not_upper_of_reserved hport hop ((addrTarget_eq_reserved_iff _).1 htarget)
  rcases hop with hop | hop
  · have hmatch : rowMatches w ⟨"WR.RSVD", 0x0400000000000#50, 0x3C00000000000#50⟩ = true :=
      rowMatches_of_opMask (by decide) rfl hport (by rw [hop]; rfl)
    rw [firstRow_of_fallThrough hnone (by decide) hmatch, hop, decodeHost_write, decodeWrite, htarget]
    rfl
  · have hmatch : rowMatches w ⟨"RD.RSVD", 0x0800000000000#50, 0x3C00000000000#50⟩ = true :=
      rowMatches_of_opMask (by decide) rfl hport (by rw [hop]; rfl)
    rw [firstRow_of_fallThrough hnone (by decide) hmatch, hop, decodeHost_read, decodeRead, htarget]
    rfl

/-- The first row of a write or a read is its operation's. -/
theorem firstRow_of_access {w : EventWord} (hport : portOf w = 0#2) (hop : opOf w = 1#2 ∨ opOf w = 2#2) :
    (firstRow w).map OpRow.mnemonic = some (mnemonicOf (decodeHost (opOf w) (addrOf w) (dataOf w))) := by
  by_cases htarget : addrTarget (addrOf w) = .reserved
  · exact firstRow_of_reserved hport hop htarget
  · exact firstRow_of_mapped hport hop htarget

/-- The first row a host command matches is its operation's. -/
theorem firstRow_of_hostPort {w : EventWord} (hport : portOf w = 0#2) :
    (firstRow w).map OpRow.mnemonic = some (mnemonicOf (decodeHost (opOf w) (addrOf w) (dataOf w))) := by
  rcases bitVec2_cases (opOf w) with hop | hop | hop | hop
  · have hmatch : rowMatches w ⟨"HNOP", 0x0000000000000#50, 0x3C00000000000#50⟩ = true :=
      rowMatches_of_opMask (by decide) rfl hport (by rw [hop]; rfl)
    rw [firstRow_of_upper (by decide) hmatch, hop, decodeHost_idle]
    rfl
  · exact firstRow_of_access hport (.inl hop)
  · exact firstRow_of_access hport (.inr hop)
  · have hmatch : rowMatches w ⟨"HRSV", 0x0C00000000000#50, 0x3C00000000000#50⟩ = true :=
      rowMatches_of_opMask (by decide) rfl hport (by rw [hop]; rfl)
    rw [firstRow_of_upper (by decide) hmatch, hop, decodeHost_reserved]
    rfl

/-- On another port than the host's, the fall-through row of the port is the first. -/
theorem firstRow_of_otherPort {w : EventWord} {r : OpRow} (hport : portOf w ≠ 0#2) (hr : r ∈ fallThroughRows)
    (hmask : r.mask = 0x3000000000000#50) (hpat : r.pat.toNat = (portOf w).toNat * 2 ^ 48) : firstRow w = some r :=
  firstRow_of_fallThrough (not_upper_of_port hport) hr
    (rowMatches_of_portMask (mem_opRows_of_fallThrough hr) hmask hpat)

/-- The first row any event word matches is its operation's (30_encoding R96). -/
theorem firstRow_mnemonic (w : EventWord) : (firstRow w).map OpRow.mnemonic = some (mnemonicOf (decode w)) := by
  rcases bitVec2_cases (portOf w) with hport | hport | hport | hport
  · rw [decode_of_hostPort hport]
    exact firstRow_of_hostPort hport
  · have hfirst : firstRow w = some ⟨"TICK", 0x1000000000000#50, 0x3000000000000#50⟩ :=
      firstRow_of_otherPort (by simp [hport]) (by decide) rfl (by rw [hport]; rfl)
    rw [hfirst, decode_of_tickPort hport]
    rfl
  · have hfirst : firstRow w = some ⟨"RESET", 0x2000000000000#50, 0x3000000000000#50⟩ :=
      firstRow_of_otherPort (by simp [hport]) (by decide) rfl (by rw [hport]; rfl)
    rw [hfirst, decode_of_resetPort hport]
    rfl
  · have hfirst : firstRow w = some ⟨"EVRSV", 0x3000000000000#50, 0x3000000000000#50⟩ :=
      firstRow_of_otherPort (by simp [hport]) (by decide) rfl (by rw [hport]; rfl)
    rw [hfirst, decode_of_reservedPort hport]
    rfl

end Sys2Proof.Laws
end

section
/-! SUPPORT. What a host command keeps (40_host_access R110), and when a TICK delivers its sample (30_encoding R95). -/

namespace Sys2Proof.Laws

open Sys2Proof.Machine

/-- An operation of format H answers, delivers nothing and keeps the registers of the tick engine (40_host_access R110);
with the error response it keeps the whole block (60_exceptions R247). -/
theorem Effect.host_frame {s t : State} {i : Instr} {op : BitVec 2} (he : Effect s i t)
    (hf : EncodedFields.formatOf i = (0#2, some op)) :
    ∃ r : Response, t.resp = some r ∧ t.emitted = none ∧ t.divph = s.divph ∧ t.stepReg = s.stepReg ∧
      t.pctl = s.pctl ∧ t.vctl = s.vctl ∧ t.capp = s.capp ∧ t.capv = s.capv ∧ t.sample = s.sample ∧
      (r.err = true → t.block = s.block) := by
  cases he with
  | rejected =>
    exact ⟨_, rfl, rfl, rfl, rfl, rfl, rfl, rfl, rfl, rfl, fun _ => block_answer s true 0#32⟩
  | tick | reset | evrsv => cases hf
  | _ => exact ⟨_, rfl, rfl, rfl, rfl, rfl, rfl, rfl, rfl, rfl, fun herr => nomatch herr⟩

theorem renders_iff (s : State) : renders s = true ↔ RenderTick s := by
  simp [renders, RenderTick]

/-- Part S delivers its new `SAMPLE` on a render tick, and nothing else (44_synthesis R209, 45_tick R216). -/
theorem partS_emitted (p : Config.Params) (s : State) :
    (partS p s).emitted = if renders s then some (partS p s).sample else s.emitted := by
  unfold partS
  split
  · next h => simp [outputPart]
  · rfl

/-- A TICK delivers its new `SAMPLE` on a render tick, and nothing otherwise (30_encoding R95). -/
theorem tickWith_emitted (p : Config.Params) (capP capV : Capture) (s : State) :
    (tickWith p capP capV s).emitted =
      if RenderTick s then some (tickWith p capP capV s).sample else none := by
  obtain ⟨-, -, -, hsample, hemitted⟩ := tickWith_synthesis p capP capV s
  have hrenders := renders_iff s.silent
  rw [hemitted, hsample, partS_emitted]
  simp only [hrenders]
  rfl

/-- A TICK that delivers nothing keeps `SAMPLE` (45_tick R216). -/
theorem tickWith_sample_of_not_renderTick (p : Config.Params) (capP capV : Capture) {s : State} (h : ¬ RenderTick s) :
    (tickWith p capP capV s).sample = s.sample := by
  obtain ⟨-, -, -, hsample, -⟩ := tickWith_synthesis p capP capV s
  have hrenders : renders s.silent = false := Bool.eq_false_iff.2 fun hr => h ((renders_iff s.silent).1 hr)
  rw [hsample, partS_skipped p _ hrenders, silent_sample]

/-- An event other than a TICK delivers nothing, and of those only RESET writes `SAMPLE` (30_encoding R95). -/
theorem Effect.delivers_nothing {s t : State} {i : Instr} (he : Effect s i t)
    (hi : ∀ p v : Capture, i ≠ .tick p v) : t.emitted = none ∧ (i ≠ .reset → t.sample = s.sample) := by
  cases he with
  | tick p v => exact absurd rfl (hi p v)
  | reset => exact ⟨rfl, fun h => absurd rfl h⟩
  | _ => exact ⟨rfl, fun _ => rfl⟩

/-- `SAMPLE` is an s16 (10_state R38). -/
theorem sample_toInt_bounds (x : Sample) : -32768 ≤ x.toInt ∧ x.toInt ≤ 32767 := by
  have hlo := x.le_toInt
  have hhi := x.toInt_lt
  omega

theorem exec_hnop (s : State) : exec .hnop s = .next (s.answer false 0#32) := rfl

/-- A step with nothing pending performs the idle port's word on the state itself (30_encoding R94). -/
theorem step_idle {s : State} (h : s.pending = []) : step s = exec .hnop s := by
  rw [step, fetchEvent, State.popEvent, h, List.headD_nil, decode_idle, List.tail_nil, withPending_nil h]

end Sys2Proof.Laws
end

section
/-! The statements of 30_encoding: decoder and encoder, the operation map, the ignored bits, the idle events, and which
events answer and deliver. -/

open Sys2Proof Sys2Proof.Machine Sys2Proof.Laws

/-- Settles O1, by the operation's format: the decoder reads back the fields its word was assembled from. -/
theorem decodeOfEncodeIsTheOperation : Obligations.DecodeOfEncodeIsTheOperation := by
  intro i hwf
  exact decode_encode hwf

/-- Settles O2: a row is a window of event words, the upper windows are apart, and each word lies in the window of its
operation. -/
theorem decodeSelectsTheFirstMatchingRow : Obligations.DecodeSelectsTheFirstMatchingRow := by
  refine ⟨firstRow_mnemonic, fun w r q hr hq hwr hwq => ?_, rfl⟩
  exact eq_of_matches pairwise_apart_upperRows hr hq hwr hwq

/-- Settles O3, by the port: only a host access could be ill-formed, and an address that names nothing is reserved. -/
theorem decodedOperationIsWellFormed : Obligations.DecodedOperationIsWellFormed := by
  intro w
  rcases bitVec2_cases (portOf w) with hport | hport | hport | hport
  · rw [decode_of_hostPort hport]
    exact wellFormed_decodeHost _ _ _
  · rw [decode_of_tickPort hport]; rfl
  · rw [decode_of_resetPort hport]; rfl
  · rw [decode_of_reservedPort hport]; rfl

/-- Settles O4: the decoder looks at the fields of the word's format only. -/
theorem dontCareBitsAreIgnored : Obligations.DontCareBitsAreIgnored := by
  intro w
  refine ⟨fun hport hop => ?idle, fun hport hop => ?reserved, fun hport hop => ?read, decode_of_tickPort,
    decode_of_resetPort, decode_of_reservedPort⟩
  case idle => rw [decode_of_hostPort hport, hop, decodeHost_idle]
  case reserved => rw [decode_of_hostPort hport, hop, decodeHost_reserved]
  case read => rw [decode_of_readFields hport hop, decode_readWord]

/-- Settles O21, by the effects of a format H operation. -/
theorem hostCommandKeepsTickEngineRegisters : Obligations.HostCommandKeepsTickEngineRegisters := by
  intro s w hport
  rw [decode_of_hostPort hport]
  obtain ⟨t, hexec, heffect⟩ := exec_effect (decodeHost (opOf w) (addrOf w) (dataOf w)) s
  obtain ⟨r, hframe⟩ := heffect.host_frame (formatOf_decodeHost _ _ _)
  exact ⟨t, r, hexec, hframe⟩

/-- Settles O33, by whether the event is a TICK and whether that renders: no other event delivers, and of those RESET
alone writes `SAMPLE`. -/
theorem sampleExactlyOnRenderTicks : Obligations.SampleExactlyOnRenderTicks := by
  intro s i
  obtain ⟨t, hexec, heffect⟩ := exec_effect i s
  refine ⟨t, hexec, ?_⟩
  by_cases htick : ∃ p v : Capture, i = .tick p v
  · obtain ⟨p, v, rfl⟩ := htick
    cases hexec
    have hemitted := tickWith_emitted Config.params p v s
    by_cases hr : RenderTick s
    · rw [if_pos hr] at hemitted
      simp [hemitted, hr, sample_toInt_bounds]
    · rw [if_neg hr] at hemitted
      simp [hemitted, hr, tickWith_sample_of_not_renderTick Config.params p v hr]
  · obtain ⟨hemitted, hsample⟩ := heffect.delivers_nothing fun p v h => htick ⟨p, v, h⟩
    simpa [hemitted, htick] using hsample

/-- Settles O5: each word is evaluated. -/
theorem specEventWordsDecode : Obligations.SpecEventWordsDecode := by
  unfold Obligations.SpecEventWordsDecode
  decide

/-- Settles O7: the word of an idle port is that of an HNOP, and taking it off an empty port changes nothing. -/
theorem idlePortStepIsAnHnop : Obligations.IdlePortStepIsAnHnop := by
  intro s hidle
  rw [step_idle hidle, exec_hnop]
  rfl

/-- Settles O18: both events change port fields only, and no operation reads those. -/
theorem idleEventsOnlyTouchThePorts : Obligations.IdleEventsOnlyTouchThePorts := by
  intro s
  exact ⟨⟨_, rfl, rfl, fun i => exec_withPorts i s _ _⟩, ⟨_, rfl, rfl, fun i => exec_withPorts i s _ _⟩⟩
end

section
/-! SUPPORT. Host commands on the registers (20_memory R66; 40_host_access R110, section 8): the operation each register
address names, what a register read answers, the control words bit by bit, and the rejected commands. -/

namespace Sys2Proof.Laws

open Sys2Proof.Machine

/-! ### Register addresses -/

/-- The operation that reads a register (30_encoding R96). -/
def regRead : RegName → Instr
  | .ctrl => .rdCtrl
  | .status => .rdStatus
  | .pofs => .rdPofs
  | .vofs => .rdVofs
  | .fpitch => .rdFpitch
  | .fvol => .rdFvol
  | .phase => .rdPhase
  | .amp => .rdAmp
  | .pctl => .rdPctl
  | .vctl => .rdVctl
  | .capp => .rdCapp
  | .capv => .rdCapv
  | .sample => .rdSample
  | .step => .rdStep

/-- The operation a write of a register is; of a read-only register, its rejection (30_encoding R96). -/
def regWrite (d : Word) : RegName → Instr
  | .ctrl => .wrCtrl (d.getLsbD 0) (d.getLsbD 1) (d.getLsbD 2) (d.extractLsb' 4 2)
  | .status => .wrRoStatus
  | .pofs => .wrPofs d
  | .vofs => .wrVofs d
  | .fpitch => .wrFpitch d
  | .fvol => .wrFvol d
  | .phase => .wrPhase d
  | .amp => .wrAmp d
  | .pctl => .wrRoPctl
  | .vctl => .wrRoVctl
  | .capp => .wrRoCapp
  | .capv => .wrRoCapv
  | .sample => .wrRoSample
  | .step => .wrRoStep

/-- A read word at a register's address is that register's read, whatever its data (30_encoding R98 g). -/
theorem decode_readReg (r : RegName) (x : Word) : decode (hostWord 2#2 (regAddr r) x) = regRead r := by
  rw [decode_hostWord, decodeHost_read, decodeRead, addrTarget_regAddr]
  cases r <;> rfl

/-- A write word at a register's address is that register's write. -/
theorem decode_writeReg (r : RegName) (d : Word) : decode (hostWord 1#2 (regAddr r) d) = regWrite d r := by
  rw [decode_hostWord, decodeHost_write, decodeWrite, addrTarget_regAddr]
  cases r <;> rfl

/-- A write word at a reserved address is rejected by name (40_host_access R146). -/
theorem decode_writeReserved {a : HostAddr} (h : reservedAddr a = true) (d : Word) :
    decode (hostWord 1#2 a d) = .wrRsvd a := by
  rw [decode_hostWord, decodeHost_write, decodeWrite, (addrTarget_eq_reserved_iff a).2 h]

/-- A read word at a reserved address is rejected by name (40_host_access R147). -/
theorem decode_readReserved {a : HostAddr} (h : reservedAddr a = true) (x : Word) :
    decode (hostWord 2#2 a x) = .rdRsvd a := by
  rw [decode_hostWord, decodeHost_read, decodeRead, (addrTarget_eq_reserved_iff a).2 h]

/-! ### Register reads -/

/-- A register as the 32-bit word a host reads: zero extended, or sign extended where it is signed (20_memory R64). -/
def regValue (s : State) : RegName → Word
  | .ctrl => ctrlWord s
  | .status => statusWord s
  | .pofs => s.pofs
  | .vofs => s.vofs
  | .fpitch => s.fpitch
  | .fvol => s.fvol
  | .phase => s.phase
  | .amp => s.amp.setWidth 32
  | .pctl => s.pctl
  | .vctl => s.vctl.setWidth 32
  | .capp => s.capp.setWidth 32
  | .capv => s.capv.setWidth 32
  | .sample => s.sample.signExtend 32
  | .step => s.stepReg

/-- A register read answers the register and changes nothing else (40_host_access R110). -/
theorem exec_regRead (r : RegName) (s : State) : exec (regRead r) s = .next (s.answer false (regValue s r)) := by
  cases r <;> rfl

/-- `CTRL` bit by bit (10_state R25). -/
theorem ctrlWord_getLsbD (s : State) (k : Nat) : (ctrlWord s).getLsbD k =
    (if k = 0 then s.mute else if k = 1 then s.div2 else if k = 2 then s.shapeEn
     else if k = 4 then s.wlen.getLsbD 0 else if k = 5 then s.wlen.getLsbD 1 else false) := by
  simp only [ctrlWord, BitVec.getLsbD_append, BitVec.getLsbD_ofBool]
  rcases Nat.lt_or_ge k 6 with hfield | hzero
  · interval_cases k <;> simp
  · obtain ⟨n, rfl⟩ := Nat.exists_eq_add_of_le' hzero
    simp

/-- `STATUS` bit by bit (10_state R26). -/
theorem statusWord_getLsbD (s : State) (k : Nat) :
    (statusWord s).getLsbD k = (if k = 0 then s.mute else if k = 1 then s.divph else false) := by
  simp only [statusWord, BitVec.getLsbD_append, BitVec.getLsbD_ofBool]
  rcases k with _ | _ | k <;> simp

/-! ### Rejected commands -/

/-- A rejected command answers the error response and changes nothing else (60_exceptions R247). -/
theorem exec_of_rejected {i : Instr} (h : Rejected i) (s : State) : exec i s = .next (s.answer true 0#32) := by
  obtain ⟨t, hexec, heffect⟩ := exec_effect i s
  cases heffect with
  | rejected => exact hexec
  | answered _ haccepted => exact absurd h haccepted
  | ctrl _ _ _ hl => exact absurd h hl
  | @entry table k _ d => cases table <;> exact h.elim
  | _ => exact h.elim

/-! ### The amplitude -/

/-- A write of `AMP` stores the smaller of its data and `AMP_MAX`, which fits the register (40_host_access R123). -/
theorem ampOfData_toNat (d : Word) : (ampOfData d).toNat = min d.toNat Config.ampMax := by
  have hfits : min d.toNat Config.ampMax < 2 ^ 30 := (min_le_right _ _).trans_lt (by decide)
  rw [ampOfData, BitVec.toNat_ofNat, Nat.mod_eq_of_lt hfits]

end Sys2Proof.Laws
end

section
/-! SUPPORT. Table writes (40_host_access section 7, 20_memory R64): the entry a write word names, what is stored and what
is kept, and that writing the same again stores nothing new. -/

namespace Sys2Proof.Laws

open Sys2Proof.Machine

/-- The write word at base plus index is that entry's write. -/
theorem decode_writeEntry_word (t : TableName) {w : Nat} (a : BitVec w) (h : a.toNat < tableSize t) (d : Word) :
    decode (hostWord 1#2 (tableBase t + a.setWidth 14) d) = entryWrite t a.toNat d := by
  rw [← entryAddr_toNat]
  exact decode_entryWord h d

/-- Saturation to s16 as a minimum and a maximum (40_host_access R137, R139). -/
theorem s16OfData_eq_max_min (d : Word) : s16OfData d = max (-32768) (min d.toInt 32767) :=
  clamp_eq_max_min (by norm_num)

/-- A table write stores its data, brought into the entry's range, and keeps every other entry and every register. -/
theorem exec_entryWrite_stores {t : TableName} {k : Nat} (h : k < tableSize t) (d : Word) (s : State) :
    ∃ m : Memory,
      exec (entryWrite t k d) s =
        .next { s with mem := m, resp := some { err := false, rdata := 0#32 }, emitted := none } ∧
      memRead m t k = entryOfData t d ∧
      ∀ (u : TableName) (j : Nat), (u ≠ t ∨ j ≠ k) → memRead m u j = memRead s.mem u j := by
  refine ⟨memWrite s.mem t k (entryOfData t d), exec_entryWrite h d s, ?_, fun u j hother => ?_⟩
  · rw [memRead_memWrite, if_pos ⟨rfl, rfl⟩, storedValue_entryOfData]
  · rw [memRead_memWrite, if_neg (not_and_or.2 hother)]

theorem memWrite_idem (m : Memory) (t : TableName) (k : Nat) (v : Int) :
    memWrite (memWrite m t k v) t k v = memWrite m t k v := by
  cases t <;> simp only [memWrite, insertEntry_idem]

theorem setEntry_idem (s : State) (t : TableName) (k : Nat) (v : Int) :
    (s.setEntry t k v).setEntry t k v = s.setEntry t k v := by
  simp only [State.setEntry, memWrite_idem]

end Sys2Proof.Laws
end

section
/-! The statements of 40_host_access: register reads and writes, table writes, and the rejected commands. -/

open Sys2Proof Sys2Proof.Machine Sys2Proof.Laws

/-- Settles O10: the words concatenate the fields, so that each bit is a field's or 0. -/
theorem controlWordsReadBitByBit : Obligations.ControlWordsReadBitByBit := by
  refine ⟨fun x => ⟨decode_readReg .ctrl x, decode_readReg .status x⟩, fun s => ⟨?ctrl, ?status⟩⟩
  case ctrl => exact ⟨ctrlWord s, exec_regRead .ctrl s, ctrlWord_getLsbD s⟩
  case status => exact ⟨statusWord s, exec_regRead .status s, statusWord_getLsbD s⟩

/-- Settles O14: the saturated value fits the register, so that storing it loses nothing. -/
theorem ampWriteSaturates : Obligations.AmpWriteSaturates := by
  intro s d
  exact ⟨decode_writeReg .amp d, ampOfData d, ampOfData_toNat d, rfl⟩

/-- Settles O15, by what a write of `CTRL` does with its four fields. -/
theorem controlWriteSetsAllFieldsOrNone : Obligations.ControlWriteSetsAllFieldsOrNone := by
  refine ⟨fun s d => ?word, fun s m v sh l hl => ?legal, fun s m v sh => ?illegal⟩
  case word =>
    have hdecode : decode (hostWord 1#2 0x0000#14 d) = regWrite d .ctrl := decode_writeReg .ctrl d
    rw [hdecode]
    exact exec_wrCtrl _ _ _ _ s
  case legal => exact (exec_wrCtrl m v sh l s).trans (if_neg hl)
  case illegal => exact exec_of_rejected (i := .wrCtrl m v sh 3#2) rfl s

/-- Settles O16: an entry's address names its write, which stores that entry and keeps the others. -/
theorem tableWriteStoresSaturatedEntry : Obligations.TableWriteStoresSaturatedEntry := by
  refine ⟨fun a b c e d => ⟨?_, ?_, ?_, ?_⟩, fun s a b c e d => ⟨?_, ?_, ?_, ?_⟩⟩
  · simpa [entryWrite, tableBase] using decode_writeEntry_word .ptab a a.isLt d
  · simpa [entryWrite, tableBase] using decode_writeEntry_word .vtab b b.isLt d
  · simpa [entryWrite, tableBase] using decode_writeEntry_word .stab c c.isLt d
  · simpa [entryWrite, tableBase] using decode_writeEntry_word .wtab e e.isLt d
  · simpa [entryWrite, entryOfData, ptabOfData] using exec_entryWrite_stores (t := .ptab) a.isLt d s
  · simpa [entryWrite, entryOfData, vtabOfData] using exec_entryWrite_stores (t := .vtab) b.isLt d s
  · simpa [entryWrite, entryOfData, s16OfData_eq_max_min] using exec_entryWrite_stores (t := .stab) c.isLt d s
  · simpa [entryWrite, entryOfData, s16OfData_eq_max_min] using exec_entryWrite_stores (t := .wtab) e.isLt d s

/-- Settles O17: the entry already holds the value, and no operation looks at the latest response. -/
theorem repeatedTableWriteChangesNothing : Obligations.RepeatedTableWriteChangesNothing := by
  intro s t i hwrites hexec
  obtain ⟨table, k, d, hk, rfl⟩ := exists_entryWrite hwrites
  rw [exec_entryWrite hk] at hexec
  cases hexec
  rw [exec_answer, exec_entryWrite hk, setEntry_idem]

/-- Settles O11, by the value of each register; a narrower register keeps its number in the wider word. -/
theorem registerReadsAnswerTheRegister : Obligations.RegisterReadsAnswerTheRegister := by
  refine ⟨fun x => ?_, fun s => ?_⟩
  · exact ⟨decode_readReg .pofs x, decode_readReg .vofs x, decode_readReg .fpitch x, decode_readReg .fvol x,
      decode_readReg .phase x, decode_readReg .amp x, decode_readReg .pctl x, decode_readReg .vctl x,
      decode_readReg .capp x, decode_readReg .capv x, decode_readReg .sample x, decode_readReg .step x⟩
  · refine ⟨regValue s .amp, regValue s .vctl, regValue s .capp, regValue s .capv, regValue s .sample,
      BitVec.toNat_setWidth_of_le (by decide), BitVec.toNat_setWidth_of_le (by decide),
      BitVec.toNat_setWidth_of_le (by decide), BitVec.toNat_setWidth_of_le (by decide),
      BitVec.toInt_signExtend_of_le (by decide), ?_⟩
    exact ⟨exec_regRead .pofs s, exec_regRead .vofs s, exec_regRead .fpitch s, exec_regRead .fvol s,
      exec_regRead .phase s, exec_regRead .amp s, exec_regRead .pctl s, exec_regRead .vctl s,
      exec_regRead .capp s, exec_regRead .capv s, exec_regRead .sample s, exec_regRead .step s⟩

/-- Settles O13: each write is its register's update followed by the response, by definition. -/
theorem plainRegisterWritesStoreTheData : Obligations.PlainRegisterWritesStoreTheData := by
  refine ⟨fun d => ?_, fun s d => ⟨rfl, rfl, rfl, rfl, rfl⟩⟩
  exact ⟨decode_writeReg .pofs d, decode_writeReg .vofs d, decode_writeReg .fpitch d, decode_writeReg .fvol d,
    decode_writeReg .phase d⟩

/-- Settles O19: every command listed is one of the causes of the error response. -/
theorem rejectedCommandsOnlyAnswerError : Obligations.RejectedCommandsOnlyAnswerError := by
  refine ⟨fun a d => ?_, fun s a i hi => ?_⟩
  · exact ⟨decode_hostWord 3#2 a d, fun h => ⟨decode_writeReserved h d, decode_readReserved h d⟩,
      decode_writeReg .status d, decode_writeReg .pctl d, decode_writeReg .vctl d, decode_writeReg .capp d,
      decode_writeReg .capv d, decode_writeReg .sample d, decode_writeReg .step d⟩
  · have hrejected : Rejected i := by fin_cases hi <;> trivial
    exact exec_of_rejected hrejected s
end

section
/-! SUPPORT. The representative control values of the images (41_table_images R151) and what a lookup makes of them; the
identity shaping curve (41_table_images R161). -/

namespace Sys2Proof.Laws

open Sys2Proof.Machine

/-! ### Representative control values -/

/-- Entry `i` stands for a value of octave `i div 64` (41_table_images R151). -/
theorem lg_of_representative {i v : Nat} (hv : v * 64 = 2 ^ (i / 64) * (64 + i % 64)) : lg v = i / 64 := by
  have hpow : 0 < 2 ^ (i / 64) := by positivity
  have hpart : 2 ^ (i / 64) * (i % 64) < 2 ^ (i / 64) * 64 := by gcongr; omega
  rw [mul_add] at hv
  rw [lg, Nat.log2_eq_iff (by omega), pow_succ]
  omega

/-- The mantissa of entry `i`'s value is the position `i mod 64` in its octave, in units of 2^17. -/
theorem mantissa_of_representative {i v : Nat} (hv : v * 64 = 2 ^ (i / 64) * (64 + i % 64)) :
    mantissa v = i % 64 * 2 ^ 17 := by
  have hrest : (v - 2 ^ (i / 64)) * 2 ^ 23 = i % 64 * 2 ^ 17 * 2 ^ (i / 64) := by
    rw [mul_add] at hv
    rw [mul_right_comm, mul_comm (i % 64)]
    omega
  rw [mantissa_eq_div, lg_of_representative hv, hrest, Nat.mul_div_cancel _ (Nat.two_pow_pos _)]

theorem key_of_representative {i v : Nat} (hv : v * 64 = 2 ^ (i / 64) * (64 + i % 64)) : key v = i * 2 ^ 17 := by
  have hpos : 1 ≤ v := by
    have : 0 < 2 ^ (i / 64) * (64 + i % 64) := by positivity
    omega
  rw [key_of_pos hpos, lg_of_representative hv, mantissa_of_representative hv]
  omega

theorem keyIdx_mul_two_pow {i : Nat} (hi : i < 2048) : keyIdx (i * 2 ^ 17) = i := by
  unfold keyIdx; omega

theorem keyFrac_mul_two_pow (i : Nat) : keyFrac (i * 2 ^ 17) = 0 := Nat.mul_mod_left _ _

/-- `x_i` lies in the octave `i div 64`. -/
theorem imageInput_octave (i : Nat) : 2 ^ (i / 64) ≤ imageInput i ∧ imageInput i ≤ 2 ^ (i / 64 + 1) := by
  have hpow : (0 : Rat) < 2 ^ (i / 64) := by positivity
  have hm : ((i % 64 : Nat) : Rat) ≤ 64 := by exact_mod_cast (Nat.mod_lt i (by norm_num)).le
  have hm0 : (0 : Rat) ≤ ((i % 64 : Nat) : Rat) := by positivity
  unfold imageInput
  rw [pow_succ]
  constructor <;> nlinarith

theorem imageInput_pos (i : Nat) : 0 < imageInput i := by unfold imageInput; positivity

/-- `x_i` rises with `i`: octaves follow one another, and inside one the position decides. -/
theorem imageInput_mono {i j : Nat} (hij : i ≤ j) : imageInput i ≤ imageInput j := by
  rcases (Nat.div_le_div_right (c := 64) hij).lt_or_eq with hlt | heq
  · calc imageInput i ≤ 2 ^ (i / 64 + 1) := (imageInput_octave i).2
      _ ≤ 2 ^ (j / 64) := pow_le_pow_right₀ (by norm_num) hlt
      _ ≤ imageInput j := (imageInput_octave j).1
  · have hmod : i % 64 ≤ j % 64 := by omega
    unfold imageInput
    rw [heq]
    gcongr

/-! ### The images -/

/-- A pitch image rises with `pitch_scale` ≥ 0: a non-negative power, rounding down and the cap keep the
order (41_table_images R152). -/
theorem pitchImage_nonDecreasing {m : Memory} {shiftConst pitchShift pitchScale stepNorm : Real} {maxStep : Nat}
    (himage : PitchImage m shiftConst pitchShift pitchScale stepNorm maxStep) (hconst : 0 < shiftConst)
    (hshift : 0 < pitchShift) (hscale : 0 ≤ pitchScale) (hnorm : 0 < stepNorm) : NonDecreasing m .ptab := by
  intro i j hij hj
  have hx : ((imageInput i : Rat) : Real) ≤ imageInput j := by exact_mod_cast imageInput_mono hij
  have hx0 : (0 : Real) < imageInput i := by exact_mod_cast imageInput_pos i
  rw [himage i (hij.trans_lt hj), himage j hj]
  gcongr

theorem pitchImage_le_maxStep {m : Memory} {shiftConst pitchShift pitchScale stepNorm : Real} {maxStep i : Nat}
    (himage : PitchImage m shiftConst pitchShift pitchScale stepNorm maxStep) (hi : i < tableSize .ptab) :
    memRead m .ptab i ≤ maxStep :=
  (himage i hi).trans_le (min_le_left _ _)

/-- A volume image falls with `volume_scale` ≥ 0: the logarithm rises, and the clamps, the square of a non-negative value
and rounding keep the order (41_table_images R155). -/
theorem volumeImage_nonIncreasing {m : Memory} {volumeShift volumeScale : Real}
    (himage : VolumeImage m volumeShift volumeScale) (hscale : 0 ≤ volumeScale) : NonIncreasing m .vtab := by
  intro i j hij hj
  have hx : ((imageInput i : Rat) : Real) ≤ imageInput j := by exact_mod_cast imageInput_mono hij
  have hx0 : (0 : Real) < imageInput i := by exact_mod_cast imageInput_pos i
  have hlog : Real.logb 2 (imageInput i : Rat) ≤ Real.logb 2 (imageInput j : Rat) :=
    Real.logb_le_logb_of_le (by norm_num) hx0 hx
  rw [himage i (hij.trans_lt hj), himage j hj]
  gcongr

/-! ### The identity shaping curve -/

/-- `tdiv` undoes a multiplication by 2^k. -/
theorem tdiv_mul_two_pow (v : Int) (k : Nat) : tdiv (v * 2 ^ k) k = v := by
  rw [tdiv_eq_int_tdiv, Int.mul_tdiv_cancel _ (by positivity)]

/-- Between two entries of the identity curve the interpolated value is the input; past the last one
it stays at the last entry (44_synthesis R207). -/
theorem interp_identityCurve {m : Memory} (hcurve : ∀ j : Nat, j < 256 → memRead m .stab j = identityCurve j)
    {idx : Nat} (hidx : idx < 2 ^ 8) (frac : Nat) :
    interp m .stab idx frac 8 = (if idx < 255 then identityCurve idx + frac else identityCurve 255) * 2 ^ 8 := by
  have hlast : tableSize .stab - 1 = 255 := rfl
  unfold interp
  rw [hlast, hcurve idx hidx, hcurve _ (by omega)]
  unfold identityCurve
  split
  · next h =>
    rw [min_eq_left (by omega)]
    push_cast
    ring
  · next h =>
    obtain rfl : idx = 255 := by omega
    norm_num

end Sys2Proof.Laws
end

section
/-! The statements on the table images of 41_table_images: the representative control values, the identity shaping curve,
and the order of the pitch and volume images. -/

open Sys2Proof Sys2Proof.Machine Sys2Proof.Laws

/-- Settles O51: the octave and the mantissa of entry `i`'s value are the two halves of `i`. -/
theorem keyOfRepresentativeValue : Obligations.KeyOfRepresentativeValue := by
  intro i v hi hv
  rw [key_of_representative hv]
  exact ⟨rfl, keyIdx_mul_two_pow hi, keyFrac_mul_two_pow i⟩

/-- Settles O57, by whether the sample falls in the last segment of the curve, which has no upper neighbour. -/
theorem identityCurveShapesToItself : Obligations.IdentityCurveShapesToItself := by
  intro m y hcurve hlo hhi
  unfold shapeSample
  rw [interp_identityCurve hcurve (Nat.mod_lt _ (by norm_num)), tdiv_mul_two_pow]
  have hinner : (y + 32768).toNat / 2 ^ 8 % 2 ^ 8 < 255 ↔ y < 32512 := by omega
  simp only [hinner, identityCurve]
  split <;> omega

/-- Settles O60, from the rising control values the entries stand for. -/
theorem hostImagesAreMonotone : Obligations.HostImagesAreMonotone := by
  constructor
  · intro m _ _ _ _ _ hconst hshift hscale hnorm himage
    exact ⟨pitchImage_nonDecreasing himage hconst hshift hscale hnorm, fun _ => pitchImage_le_maxStep himage⟩
  · intro m _ _ hscale himage
    exact ⟨volumeImage_nonIncreasing himage hscale, fun i _ => memRead_vtab_range m i⟩
end

section
/-! SUPPORT. The period filter and the control values (42_period_filter): the channel of a capture that stands still, the
distance of an accumulator from a constant target, and a control value at the low end of its clamp. -/

namespace Sys2Proof.Laws

open Sys2Proof.Machine

/-! ### One update of an accumulator -/

/-- The capture of the last TICK again: a zero period, which keeps the accumulator (42_period_filter R172). -/
theorem filterStep_sameCapture (p : Config.Params) (f : Word) (cap : Capture) : (filterStep p f cap cap).1 = f := by
  rw [filterStep_fst, if_pos (period_self cap)]

/-- The target is the scaled delta, saturated to s32 (42_period_filter R174). -/
theorem filterTarget_eq_max_min (p : Config.Params) (per : Nat) : filterTarget p per =
    max (-2 ^ 31) (min ((((if per < p.perThresh then 2 * per else per : Nat) : Int) - p.perCenter) *
      2 ^ p.perScaleShift) (2 ^ 31 - 1)) := clamp_eq_max_min (by norm_num)

/-- An update takes the truncated part of the distance off it (42_period_filter R175). -/
theorem sub_filterUpdate_toInt (p : Config.Params) (f : Word) {tgt : Int} (h : -2 ^ 31 ≤ tgt ∧ tgt ≤ 2 ^ 31 - 1) :
    tgt - (filterUpdate p f tgt).toInt = tgt - f.toInt - tdiv (tgt - f.toInt) p.filtShift := by
  rw [filterUpdate_toInt p f h]; omega

/-- The accumulator stalls exactly when the target is closer than the filter's window (42_period_filter R180). -/
theorem filterUpdate_eq_self_iff (p : Config.Params) (f : Word) {tgt : Int} (h : -2 ^ 31 ≤ tgt ∧ tgt ≤ 2 ^ 31 - 1) :
    filterUpdate p f tgt = f ↔ |tgt - f.toInt| < 2 ^ p.filtShift := by
  have hexact := filterUpdate_toInt p f h
  rw [← tdiv_eq_zero_iff, ← BitVec.toInt_inj]
  omega

/-! ### The distance from the target -/

/-- Taking off the part divided by 2^k shortens every distance of at least 2^k. -/
theorem natAbs_sub_tdiv_lt {d : Int} {k : Nat} (h : ¬ |d| < 2 ^ k) : (d - tdiv d k).natAbs < d.natAbs := by
  have hmoves : tdiv d k ≠ 0 := fun h0 => h ((tdiv_eq_zero_iff d k).1 h0)
  rcases Int.le_total 0 d with hd | hd
  · have := tdiv_of_nonneg k hd; omega
  · have := tdiv_of_nonpos k hd; omega

/-- The shortened distance does not fall below 2^k − 1: the quotient of d is at most d − (2^k − 1). -/
theorem le_sub_tdiv {d : Int} {k : Nat} (h : 2 ^ k - 1 ≤ d) : 2 ^ k - 1 ≤ d - tdiv d k := by
  have hpow : (1 : Int) ≤ 2 ^ k := one_le_pow₀ (by norm_num)
  rw [(tdiv_of_nonneg k (by omega)).1]
  have hquot : d / 2 ^ k < d - (2 ^ k - 1) + 1 := Int.ediv_lt_of_lt_mul (by omega) (by nlinarith)
  omega

/-- An update does not bring the accumulator closer than 2^FILT_SHIFT − 1, from either side (42_period_filter R180). -/
theorem filterUpdate_keeps_distance (p : Config.Params) (f : Word) {tgt : Int}
    (h : -2 ^ 31 ≤ tgt ∧ tgt ≤ 2 ^ 31 - 1) :
    (2 ^ p.filtShift - 1 ≤ tgt - f.toInt → 2 ^ p.filtShift - 1 ≤ tgt - (filterUpdate p f tgt).toInt) ∧
    (2 ^ p.filtShift - 1 ≤ f.toInt - tgt → 2 ^ p.filtShift - 1 ≤ (filterUpdate p f tgt).toInt - tgt) := by
  have hdist := sub_filterUpdate_toInt p f h
  constructor
  · intro hbelow
    rw [hdist]
    exact le_sub_tdiv hbelow
  · intro habove
    have hodd := tdiv_neg (f.toInt - tgt) p.filtShift
    rw [Int.neg_sub] at hodd
    have := le_sub_tdiv habove
    omega

/-! ### Repeated updates -/

theorem filterRepeat_add (p : Config.Params) (tgt : Int) (f : Word) (n k : Nat) :
    filterRepeat p tgt (n + k) f = filterRepeat p tgt k (filterRepeat p tgt n f) := by
  induction n generalizing f with
  | zero => rw [Nat.zero_add]; rfl
  | succ n ih => rw [Nat.add_right_comm]; exact ih _

/-- An accumulator that one update keeps, every further one keeps. -/
theorem filterRepeat_of_stalled {p : Config.Params} {tgt : Int} {f : Word} (h : filterUpdate p f tgt = f) (k : Nat) :
    filterRepeat p tgt k f = f := by
  induction k with
  | zero => rfl
  | succ k ih => rw [filterRepeat, h, ih]

/-- The distance falls until it is inside the window (42_period_filter R180). -/
theorem exists_filterRepeat_close (p : Config.Params) (f : Word) {tgt : Int} (h : -2 ^ 31 ≤ tgt ∧ tgt ≤ 2 ^ 31 - 1) :
    ∃ n : Nat, |tgt - (filterRepeat p tgt n f).toInt| < 2 ^ p.filtShift := by
  induction hdist : (tgt - f.toInt).natAbs using Nat.strong_induction_on generalizing f with
  | _ dist ih =>
    by_cases hclose : |tgt - f.toInt| < 2 ^ p.filtShift
    · exact ⟨0, hclose⟩
    · have hless : (tgt - (filterUpdate p f tgt).toInt).natAbs < dist := by
        rw [sub_filterUpdate_toInt p f h, ← hdist]
        exact natAbs_sub_tdiv_lt hclose
      obtain ⟨n, hn⟩ := ih _ hless (filterUpdate p f tgt) rfl
      exact ⟨n + 1, hn⟩

/-- No number of updates brings the accumulator closer than 2^FILT_SHIFT − 1 (42_period_filter R180). -/
theorem filterRepeat_keeps_distance (p : Config.Params) (f : Word) {tgt : Int}
    (h : -2 ^ 31 ≤ tgt ∧ tgt ≤ 2 ^ 31 - 1) (n : Nat) :
    (2 ^ p.filtShift - 1 ≤ tgt - f.toInt → 2 ^ p.filtShift - 1 ≤ tgt - (filterRepeat p tgt n f).toInt) ∧
    (2 ^ p.filtShift - 1 ≤ f.toInt - tgt → 2 ^ p.filtShift - 1 ≤ (filterRepeat p tgt n f).toInt - tgt) := by
  induction n generalizing f with
  | zero => exact ⟨id, id⟩
  | succ n ih =>
    obtain ⟨hbelow, habove⟩ := filterUpdate_keeps_distance p f h
    obtain ⟨ihbelow, ihabove⟩ := ih (filterUpdate p f tgt)
    exact ⟨ihbelow ∘ hbelow, ihabove ∘ habove⟩

/-! ### The control values and the divider phase -/

/-- The pitch control value with the default factor 1 (42_period_filter R177; log entry 9). -/
theorem pitchControl_params (f ofs : Word) : ((pitchControl Config.params f ofs).toNat : Int) =
    max 1 (min (f.toInt - ofs.toInt) (2 ^ 32 - 1)) := by
  have hfactor : (Config.params.pitchMul : Int) = 1 := rfl
  rw [pitchControl_toNat, clamp_eq_max_min (by norm_num), hfactor, Int.mul_one]

/-- The volume control value with the default divisor 2^10 (42_period_filter R178; log entry 9). -/
theorem volControl_params (f ofs : Word) : ((volControl Config.params f ofs).toNat : Int) =
    max 1 (min (Int.tdiv (f.toInt - ofs.toInt) 1024) 65535) := by
  have hdivisor : (2 : Int) ^ Config.params.volNormShift = 1024 := rfl
  rw [volControl_toNat, clamp_eq_max_min (by norm_num), tdiv_eq_int_tdiv, hdivisor]

/-- The divider phase moves only with the divider on (45_tick R217). -/
theorem nextDivph_eq (s : State) : nextDivph s = (s.div2 && !s.divph) := by
  unfold nextDivph; cases s.div2 <;> rfl

/-- An accumulator not above the offset gives the pitch control value 1 (42_period_filter R177). -/
theorem pitchControl_of_le (p : Config.Params) {f ofs : Word} (h : f.toInt ≤ ofs.toInt) : pitchControl p f ofs = 1#32 := by
  have hnonpos : (f.toInt - ofs.toInt) * (p.pitchMul : Int) ≤ 0 :=
    Int.mul_nonpos_of_nonpos_of_nonneg (by omega) (by omega)
  rw [pitchControl, clamp, if_pos (by omega)]
  rfl

/-- An accumulator not above the offset gives the volume control value 1 (42_period_filter R178). -/
theorem volControl_of_le (p : Config.Params) {f ofs : Word} (h : f.toInt ≤ ofs.toInt) : volControl p f ofs = 1#16 := by
  have hnonpos := tdiv_of_nonpos p.volNormShift (show f.toInt - ofs.toInt ≤ 0 by omega)
  rw [volControl, clamp, if_pos (by omega)]
  rfl

/-- No s32 is above the sentinel (00_scope R8). -/
theorem toInt_le_sentinel (f : Word) : f.toInt ≤ Config.sentinel.toInt := (toInt_bounds_32 f).2

/-! ### Event lists -/

/-- What every event of the list keeps holds of every state along it. -/
theorem everyAlong_of_effect {P : State → Prop} {is : List Instr} {s : State} (hs : P s)
    (hkeeps : ∀ i ∈ is, ∀ t u : State, P t → Effect t i u → P u) : EveryAlong P is s := by
  induction is generalizing s with
  | nil => trivial
  | cons i rest ih =>
    obtain ⟨t, hexec, heffect⟩ := exec_effect i s
    have ht : P t := hkeeps i (by simp) s t hs heffect
    exact ⟨t, hexec, ht, ih ht fun j hj => hkeeps j (List.mem_cons_of_mem i hj)⟩

/-- An event that brings a channel no new capture, no write of its accumulator and no RESET leaves the channel alone
(42_period_filter R172). -/
theorem Effect.keeps_channel {s t : State} {i : Instr} (he : Effect s i t) (hreset : i ≠ .reset) :
    (((∀ d : Word, i ≠ .wrFpitch d) ∧ ∀ p v : Capture, i = .tick p v → p = s.capp) →
      t.fpitch = s.fpitch ∧ t.capp = s.capp) ∧
    (((∀ d : Word, i ≠ .wrFvol d) ∧ ∀ p v : Capture, i = .tick p v → v = s.capv) →
      t.fvol = s.fvol ∧ t.capv = s.capv) := by
  cases he with
  | reset => exact absurd rfl hreset
  | fpitch d => exact ⟨fun ⟨hwrite, _⟩ => absurd rfl (hwrite d), fun _ => ⟨rfl, rfl⟩⟩
  | fvol d => exact ⟨fun _ => ⟨rfl, rfl⟩, fun ⟨hwrite, _⟩ => absurd rfl (hwrite d)⟩
  | tick p v =>
    constructor
    · intro ⟨_, hcap⟩
      rw [tickWith_fpitch, tickWith_capp, hcap p v rfl, filterStep_sameCapture]
      exact ⟨rfl, rfl⟩
    · intro ⟨_, hcap⟩
      rw [tickWith_fvol, tickWith_capv, hcap p v rfl, filterStep_sameCapture]
      exact ⟨rfl, rfl⟩
  | rejected | answered | ctrl | pofs | vofs | phase | amp | entry | evrsv =>
    exact ⟨fun _ => ⟨rfl, rfl⟩, fun _ => ⟨rfl, rfl⟩⟩

end Sys2Proof.Laws
end

section
/-! The statements of 42_period_filter: the filter step, its stall toward a constant target, the channel that gets no new
capture, and what every TICK filters and latches. -/

open Sys2Proof Sys2Proof.Machine Sys2Proof.Laws

/-- Settles O27: the distance falls until an update keeps the accumulator, and never below 2^FILT_SHIFT − 1. -/
theorem filterConvergesAndStalls : Obligations.FilterConvergesAndStalls := by
  intro p f tgt _ hlo hhi
  have htgt : -2 ^ 31 ≤ tgt ∧ tgt ≤ 2 ^ 31 - 1 := ⟨hlo, hhi⟩
  obtain ⟨n, hclose⟩ := exists_filterRepeat_close p f htgt
  obtain ⟨hbelow, habove⟩ := filterRepeat_keeps_distance p f htgt n
  have hstalled := (filterUpdate_eq_self_iff p _ htgt).2 hclose
  obtain ⟨hleft, hright⟩ := abs_lt.1 hclose
  refine ⟨n, fun k hk => ?_, by omega, fun h => ?_, fun h => ?_⟩
  · obtain ⟨j, rfl⟩ := Nat.exists_eq_add_of_le hk
    rw [filterRepeat_add, filterRepeat_of_stalled hstalled]
  · have := hbelow h; omega
  · have := habove h; omega

/-- Settles O25: the period, the target and the update are each exact. -/
theorem filterStepIsExact : Obligations.FilterStepIsExact := by
  intro p f last cap per _ hper
  have hstep := filterStep_fst p f last cap
  rw [period_eq, ← hper] at hstep
  refine ⟨filterStep_snd p f last cap, fun hzero => ?_, fun hmoved => ?_⟩
  · rw [hstep, if_pos hzero]
  · rw [hstep, if_neg hmoved, filterUpdate_toInt p f (filterTarget_range p per), tdiv_eq_int_tdiv,
      filterTarget_eq_max_min]

/-- Settles O28, by the effects of an event: a TICK with the same capture has a zero period. -/
theorem constantCaptureKeepsTheAccumulator : Obligations.ConstantCaptureKeepsTheAccumulator := by
  intro is s hreset
  constructor
  · intro hchannel
    refine everyAlong_of_effect ⟨rfl, rfl⟩ fun i hi t u ⟨hacc, hcap⟩ heffect => ?_
    rw [← hacc, ← hcap]
    exact (heffect.keeps_channel (hreset i hi)).1 (hcap ▸ hchannel i hi)
  · intro hchannel
    refine everyAlong_of_effect ⟨rfl, rfl⟩ fun i hi t u ⟨hacc, hcap⟩ heffect => ?_
    rw [← hacc, ← hcap]
    exact (heffect.keeps_channel (hreset i hi)).2 (hcap ▸ hchannel i hi)

/-- Settles O29: the fields every TICK leaves, with the control values at the default parameters. -/
theorem tickFiltersAndLatchesControls : Obligations.TickFiltersAndLatchesControls := by
  intro s p v
  refine ⟨tickWith Config.params p v s, rfl, ?_⟩
  simp [pitchControl_params, volControl_params, nextDivph_eq, Prod.ext_iff]

/-- Settles O38: no accumulator is above the sentinel, so the difference is clamped to 1. -/
theorem degenerateCalibrationPinsTheControls : Obligations.DegenerateCalibrationPinsTheControls := by
  intro s p v
  refine ⟨tickWith Config.params p v s, rfl, fun hofs => ?_, fun hofs => ?_⟩
  · rw [tickWith_pctl, hofs]
    exact pitchControl_of_le _ (toInt_le_sentinel _)
  · rw [tickWith_vctl, hofs]
    exact volControl_of_le _ (toInt_le_sentinel _)
end

section
/-! SUPPORT. The lookups (43_lookup R185 to R193): interpolation as a weighted sum of two neighbours, its order along a
monotone table, and what the linear pitch image makes of it. -/

namespace Sys2Proof.Laws

open Sys2Proof.Machine

/-! ### Interpolation -/

/-- The two neighbours weigh in by the fraction, the lower with what is left of 2^fb (43_lookup R187). -/
theorem interp_eq_weighted (m : Memory) (t : TableName) (idx frac fb : Nat) : interp m t idx frac fb =
    memRead m t idx * (2 ^ fb - frac) + memRead m t (min (idx + 1) (tableSize t - 1)) * frac := by
  unfold interp; ring

/-- A weighted sum with weights `q - f` and `f` is within the two values, and reaches the second only where they agree. -/
theorem weighted_between {a b f q : Int} (h0 : 0 ≤ f) (hq : f < q) :
    min a b * q ≤ a * (q - f) + b * f ∧ a * (q - f) + b * f ≤ max a b * q ∧
      (a ≠ b → a * (q - f) + b * f ≠ b * q) := by
  refine ⟨?_, ?_, fun hne heq => ?_⟩
  · nlinarith [min_le_left a b, min_le_right a b]
  · nlinarith [le_max_left a b, le_max_right a b]
  · have hzero : (a - b) * (q - f) = 0 := by linarith
    rcases mul_eq_zero.1 hzero with hab | hqf
    · exact hne (sub_eq_zero.1 hab)
    · omega

/-- The last entry is its own upper neighbour, so the fraction does not count (43_lookup R187). -/
theorem interp_last {t : TableName} {idx : Nat} (m : Memory) (frac fb : Nat) (h : idx + 1 = tableSize t) :
    interp m t idx frac fb = memRead m t idx * 2 ^ fb := by
  have hself : min (idx + 1) (tableSize t - 1) = idx := by omega
  unfold interp
  rw [hself, sub_self, zero_mul, add_zero]

/-! ### Order -/

/-- Along a table whose entries times `σ` do not fall, interpolation times `σ` does not fall with the index and fraction.
`σ` = 1 is a rising table, `σ` = −1 a falling one. -/
theorem mul_interp_le_mul_interp {m : Memory} {t : TableName} {σ : Int}
    (hmono : ∀ i j : Nat, i ≤ j → j < tableSize t → σ * memRead m t i ≤ σ * memRead m t j)
    {idx idx' frac frac' fb : Nat} (hsize : idx' < tableSize t) (hf : frac < 2 ^ fb)
    (hlex : idx < idx' ∨ idx = idx' ∧ frac ≤ frac') :
    σ * interp m t idx frac fb ≤ σ * interp m t idx' frac' fb := by
  have hf' : (frac : Int) < 2 ^ fb := by exact_mod_cast hf
  have hrise (i : Nat) (hi : i < tableSize t) := hmono i (min (i + 1) (tableSize t - 1)) (by omega) (by omega)
  have hupper' := hrise idx' hsize
  rcases hlex with hlt | ⟨rfl, hle⟩
  · have hupper := hrise idx (by omega)
    have hnext := hmono (min (idx + 1) (tableSize t - 1)) idx' (by omega) hsize
    calc σ * interp m t idx frac fb
        ≤ σ * memRead m t (min (idx + 1) (tableSize t - 1)) * 2 ^ fb := by rw [interp_eq_weighted]; nlinarith
      _ ≤ σ * memRead m t idx' * 2 ^ fb := by gcongr
      _ ≤ σ * interp m t idx' frac' fb := by unfold interp; nlinarith
  · have hle' : (frac : Int) ≤ frac' := by exact_mod_cast hle
    unfold interp
    nlinarith

/-- A key of 28 bits is its index and its fraction (43_lookup R186). -/
theorem keyIdx_eq_div {k : Nat} (hk : k < 2 ^ 28) : keyIdx k = k / 2 ^ 17 := by unfold keyIdx; omega

/-- The larger control value has the larger index, or the same index and no smaller fraction. -/
theorem keyIdx_keyFrac_mono {v w : Nat} (hv : 1 ≤ v) (hvw : v ≤ w) (hw : w < 2 ^ 32) :
    keyIdx (key v) < keyIdx (key w) ∨ keyIdx (key v) = keyIdx (key w) ∧ keyFrac (key v) ≤ keyFrac (key w) := by
  have hkey := key_mono hv hvw
  have hlt := key_lt (hv.trans hvw) hw
  rw [keyIdx_eq_div hlt, keyIdx_eq_div (hkey.trans_lt hlt)]
  unfold keyFrac
  omega

/-- A lookup keeps the order of its table, up to the sign `σ` (43_lookup R192). -/
theorem mul_lookupAcc_le_mul_lookupAcc {m : Memory} {t : TableName} {σ : Int}
    (hmono : ∀ i j : Nat, i ≤ j → j < tableSize t → σ * memRead m t i ≤ σ * memRead m t j)
    {v w : Nat} (hv : 1 ≤ v) (hvw : v ≤ w) (hw : w < 2 ^ 32) (hsize : keyIdx (key w) < tableSize t) :
    σ * lookupAcc m t v ≤ σ * lookupAcc m t w :=
  mul_interp_le_mul_interp hmono hsize (keyFrac_lt _) (keyIdx_keyFrac_mono hv hvw hw)

/-- A key's index has 11 bits, so it is an entry of the pitch table (43_lookup R186). -/
theorem keyIdx_lt_ptab (k : Nat) : keyIdx k < tableSize .ptab := Nat.mod_lt _ (by norm_num)

/-- A value of 16 bits has an exponent of at most 15 and, with it, an index inside the volume table (43_lookup R188). -/
theorem lg_le_and_keyIdx_le {v : Nat} (hv : 1 ≤ v) (hle : v ≤ 65535) : lg v ≤ 15 ∧ keyIdx (key v) ≤ 1023 := by
  have hlg : lg v < 16 := (lg_lt_iff hv).2 (by omega)
  have hkey := key_octave hv
  refine ⟨by omega, ?_⟩
  rw [keyIdx_eq_div (by omega)]
  omega

/-! ### The linear pitch image -/

/-- Inside an octave the linear image rises by equal steps up to and with the first entry of the next (43_lookup R189). -/
theorem linearPitch_octave (e : Nat) {j : Nat} (hj : j ≤ 64) : linearPitch (64 * e + j) = 2 ^ e * (64 + j) := by
  unfold linearPitch
  rcases hj.lt_or_eq with hlt | rfl
  · rw [show (64 * e + j) / 64 = e by omega, show (64 * e + j) % 64 = j by omega]
  · rw [show (64 * e + 64) / 64 = e + 1 by omega, show (64 * e + 64) % 64 = 0 by omega]
    push_cast
    ring

/-- Below 2^24 the mantissa loses no bit of the value (43_lookup R185). -/
theorem two_pow_lg_mul_mantissa {v : Nat} (h : lg v ≤ 23) : 2 ^ lg v * mantissa v = (v - 2 ^ lg v) * 2 ^ 23 := by
  rw [mantissa, if_pos h, mul_left_comm, ← pow_add, Nat.add_sub_cancel' h]

/-- The key splits into the entry of its octave and the fraction: both are parts of the mantissa (43_lookup R186). -/
theorem keyIdx_key {v : Nat} (hv : 1 ≤ v) (hlt : v < 2 ^ 32) : keyIdx (key v) = 64 * lg v + mantissa v / 2 ^ 17 := by
  rw [keyIdx_eq_div (key_lt hv hlt), key_of_pos hv]
  omega

theorem keyFrac_key {v : Nat} (hv : 1 ≤ v) : keyFrac (key v) = mantissa v % 2 ^ 17 := by
  rw [keyFrac, key_of_pos hv]
  omega

/-- Over the linear image the interpolated value is the control value times 2^23: an octave's entries are its mantissas in
steps of 2^17, and the fraction fills the steps (43_lookup R189). -/
theorem lookupAcc_linearPitch {m : Memory} (himage : ∀ i : Nat, i ≤ 1536 → memRead m .ptab i = linearPitch i) {v : Nat}
    (hv : 1 ≤ v) (hlt : v < 2 ^ 24) : lookupAcc m .ptab v = v * 2 ^ 23 := by
  have hlg : lg v < 24 := (lg_lt_iff hv).2 hlt
  have hmant := mantissa_lt v
  have hexact : (2 : Int) ^ lg v * mantissa v = (v - 2 ^ lg v) * 2 ^ 23 := by
    have hnat := two_pow_lg_mul_mantissa (v := v) (by omega)
    have hle := two_pow_lg_le hv
    zify [hle] at hnat
    exact hnat
  have hsplit : (mantissa v : Int) = (mantissa v / 2 ^ 17 : Nat) * 2 ^ 17 + (mantissa v % 2 ^ 17 : Nat) := by omega
  have hnext : min (64 * lg v + mantissa v / 2 ^ 17 + 1) (tableSize .ptab - 1) =
      64 * lg v + (mantissa v / 2 ^ 17 + 1) := by
    have hsize : tableSize .ptab = 2048 := rfl
    omega
  rw [lookupAcc, keyIdx_key hv (by omega), keyFrac_key hv, interp, hnext, himage _ (by omega), himage _ (by omega),
    linearPitch_octave _ (by omega), linearPitch_octave _ (by omega)]
  rw [hsplit] at hexact
  push_cast at hexact ⊢
  linear_combination hexact

end Sys2Proof.Laws
end

section
/-! SUPPORT. What a render tick leaves in the synthesis registers (45_tick R215 lines 1 to 9, R216), field by field, and
the sample it renders as integers (44_synthesis R211). -/

namespace Sys2Proof.Laws

open Sys2Proof.Machine

/-! ### The sample -/

/-- No amplitude of 30 bits scales a waveform value out of s16 (44_synthesis R206). -/
theorem scaleAmp_range (amp : BitVec 30) {w : Int} (hw : -2 ^ 35 ≤ w ∧ w ≤ 2 ^ 35) :
    -32767 ≤ scaleAmp w amp ∧ scaleAmp w amp ≤ 32767 := by
  have hscaled := scaleAmp_le w amp (2 ^ 30 - 1) hw (by have := amp.isLt; omega)
  exact abs_le.1 (hscaled.trans (by norm_num))

/-- The rendered sample is an s16 before the final clamp, in every state (44_synthesis R208). -/
theorem renderedSample_range (s : State) : -32768 ≤ renderedSample s ∧ renderedSample s ≤ 32767 := by
  unfold renderedSample
  split
  · exact shapeSample_range _ _
  · have := scaleAmp_range s.amp (waveInterp_range s.mem s.wlen s.phase)
    omega

/-- The rendered sample depends on the tables, two fields of `CTRL`, the phase and the amplitude only. -/
theorem renderedSample_congr {s t : State} (hmem : s.mem = t.mem) (hshape : s.shapeEn = t.shapeEn)
    (hwlen : s.wlen = t.wlen) (hphase : s.phase = t.phase) (hamp : s.amp = t.amp) :
    renderedSample s = renderedSample t := by
  unfold renderedSample
  rw [hmem, hshape, hwlen, hphase, hamp]

/-- The waveform value by its two indices modulo the table length (44_synthesis R202 to R204). -/
theorem waveInterp_eq (m : Memory) (l : BitVec 2) (phase : Word) : waveInterp m l phase =
    memRead m .wtab (phase.toNat / 2 ^ 20 % (1024 * 2 ^ l.toNat)) * 2 ^ 20 +
      (memRead m .wtab ((phase.toNat / 2 ^ 20 + 1) % (1024 * 2 ^ l.toNat)) -
        memRead m .wtab (phase.toNat / 2 ^ 20 % (1024 * 2 ^ l.toNat))) * (phase.toNat % 2 ^ 20 : Nat) := by
  rw [waveInterp, waveIdx0, waveIdx1, and_wmask, and_wmask]
  rfl

/-- The shaper's input `u` = `y` + 32768 has 16 bits (44_synthesis R207). -/
theorem exists_shaperInput (amp : BitVec 30) {w : Int} (hw : -2 ^ 35 ≤ w ∧ w ≤ 2 ^ 35) :
    ∃ u : Nat, (u : Int) = scaleAmp w amp + 32768 ∧ u < 65536 := by
  have hrange := scaleAmp_range amp hw
  exact ⟨(scaleAmp w amp + 32768).toNat, by omega, by omega⟩

/-- The shaper by the upper and the lower byte of `u` = `y` + 32768 (44_synthesis R207). -/
theorem shapeSample_eq (m : Memory) {y : Int} {u : Nat} (hu : (u : Int) = y + 32768) (hlt : u < 65536) :
    shapeSample m y = Int.tdiv (memRead m .stab (u / 256) * 256 +
      (memRead m .stab (min (u / 256 + 1) 255) - memRead m .stab (u / 256)) * ((u % 256 : Nat) : Int)) 256 := by
  have hnat : (y + 32768).toNat = u := by omega
  have hidx : u / 2 ^ 8 % 2 ^ 8 = u / 256 := by omega
  rw [shapeSample, hnat, hidx, tdiv_eq_int_tdiv]
  rfl

/-! ### The registers -/

section RenderTick

variable (p : Config.Params) (capP capV : Capture) {s : State}

/-- An unmuted render tick looks the step up and advances the phase by it (45_tick R215 lines 4 and 5). -/
theorem tickWith_advances (hr : RenderTick s) (hm : s.mute = false) :
    (tickWith p capP capV s).stepReg = pitchStep s.mem s.pctl ∧
      (tickWith p capP capV s).phase = s.phase + pitchStep s.mem s.pctl := by
  obtain ⟨hphase, -, hstep, -, -⟩ := tickWith_synthesis p capP capV s
  rw [hphase, hstep, partS_unmuted p _ ((renders_iff s.silent).2 hr) hm]
  exact ⟨rfl, rfl⟩

/-- A muted render tick keeps the step and the phase (45_tick R216). -/
theorem tickWith_holds (hr : RenderTick s) (hm : s.mute = true) :
    (tickWith p capP capV s).stepReg = s.stepReg ∧ (tickWith p capP capV s).phase = s.phase := by
  obtain ⟨hphase, -, hstep, -, -⟩ := tickWith_synthesis p capP capV s
  rw [hphase, hstep, partS_muted p _ ((renders_iff s.silent).2 hr) hm]
  exact ⟨rfl, rfl⟩

/-- Every render tick, muted or not, smooths the amplitude toward the looked-up target (45_tick R216). -/
theorem tickWith_amp_of_renderTick (hr : RenderTick s) :
    (tickWith p capP capV s).amp = smoothAmp p s.amp (ampTarget s.mem s.vctl) := by
  obtain ⟨-, hamp, -, -, -⟩ := tickWith_synthesis p capP capV s
  rw [hamp, partS_amp, if_pos ((renders_iff s.silent).2 hr)]
  rfl

/-- A muted render tick leaves the sample 0 (44_synthesis R210). -/
theorem tickWith_sample_of_muted (hr : RenderTick s) (hm : s.mute = true) : (tickWith p capP capV s).sample = 0#16 := by
  obtain ⟨-, -, -, hsample, -⟩ := tickWith_synthesis p capP capV s
  rw [hsample, partS_muted p _ ((renders_iff s.silent).2 hr) hm]
  simp [outputPart, ampPart, synthSample, hm]

/-- An unmuted render tick renders its sample from the phase and the amplitude it leaves (44_synthesis R211). -/
theorem tickWith_sample_of_unmuted (hr : RenderTick s) (hm : s.mute = false) :
    (tickWith p capP capV s).sample.toInt = renderedSample (tickWith p capP capV s) := by
  obtain ⟨-, -, -, hsample, -⟩ := tickWith_synthesis p capP capV s
  obtain ⟨-, hphase⟩ := tickWith_advances p capP capV hr hm
  have hamp := tickWith_amp_of_renderTick p capP capV hr
  have hrendered : renderedSample (tickWith p capP capV s) = renderedSample (ampPart p (advancePhase s.silent)) :=
    renderedSample_congr (tickWith_mem p capP capV s) (tickWith_shapeEn p capP capV s) (tickWith_wlen p capP capV s)
      hphase hamp
  have hrange := renderedSample_range (ampPart p (advancePhase s.silent))
  have hunmuted : (ampPart p (advancePhase s.silent)).mute = false := hm
  rw [hsample, hrendered, partS_unmuted p _ ((renders_iff s.silent).2 hr) hm, outputPart, deliver_sample, synthSample,
    hunmuted, if_neg (by decide), clamp_of_mem hrange, toInt_ofInt_16 hrange]

/-- The smoothed amplitude of a render tick at the default parameters (43_lookup R190, R191; log entry 9). -/
theorem tickWith_amp_params (hr : RenderTick s) : ((tickWith Config.params capP capV s).amp.toNat : Int) =
    s.amp.toNat + Int.tdiv
      (interp s.mem .vtab (keyIdx (key s.vctl.toNat)) (keyFrac (key s.vctl.toNat)) 17 * 8 - s.amp.toNat) 1024 := by
  rw [tickWith_amp_of_renderTick _ _ _ hr, smoothAmp_toNat _ _ (ampTarget_range _ _), tdiv_eq_int_tdiv]
  rfl

end RenderTick

end Sys2Proof.Laws
end

section
/-! The statements of 43_lookup: the bounds of a volume key, interpolation between neighbours, the order of both lookups,
the linear pitch image, and the render tick that uses them, unmuted and muted. -/

open Sys2Proof Sys2Proof.Machine Sys2Proof.Laws

/-- Settles O50: the exponent bounds the octave of the key. -/
theorem volumeIndexStaysInTheTable : Obligations.VolumeIndexStaysInTheTable :=
  fun _ => lg_le_and_keyIdx_le

/-- Settles O52: interpolation is a weighted sum, and the last entry is its own neighbour. -/
theorem interpolationStaysBetweenNeighbours : Obligations.InterpolationStaysBetweenNeighbours := by
  intro m t idx frac fb a b _ hfrac ha hb
  have hweighted : interp m t idx frac fb = a * (2 ^ fb - frac) + b * frac := by rw [ha, hb, interp_eq_weighted]
  obtain ⟨hlow, hhigh, hne⟩ := weighted_between (a := a) (b := b) (f := frac) (q := 2 ^ fb) (by omega)
    (by exact_mod_cast hfrac)
  rw [← hweighted] at hlow hhigh hne
  exact ⟨hlow, hhigh, hne, fun hlast => by rw [ha, interp_last m frac fb hlast]⟩

/-- Settles O53: a larger control value looks up a later place in the table, and rounding down keeps the order. -/
theorem lookupsAreMonotoneInTheControlValue : Obligations.LookupsAreMonotoneInTheControlValue := by
  constructor
  · intro m v w himage hv hvw
    have hacc := mul_lookupAcc_le_mul_lookupAcc (t := .ptab) (σ := 1)
      (fun i j hij hj => by simpa using himage i j hij hj) hv hvw w.isLt (keyIdx_lt_ptab _)
    have hstep := Int.ediv_le_ediv (c := 2 ^ 17) (by norm_num) (by simpa using hacc)
    rw [← pitchStep_toNat, ← pitchStep_toNat] at hstep
    exact_mod_cast hstep
  · intro m v w himage hv hvw
    have hw := w.isLt
    obtain ⟨-, hidx⟩ := lg_le_and_keyIdx_le (hv.trans hvw) (by omega)
    have hacc := mul_lookupAcc_le_mul_lookupAcc (t := .vtab) (σ := -1)
      (fun i j hij hj => by simpa using himage i j hij hj) hv hvw (by omega) (Nat.lt_succ_of_le hidx)
    unfold ampTarget
    omega

/-- Settles O54: the interpolated value is 2^23 times the control value, and the step drops 17 bits of it. -/
theorem linearImageGivesProportionalStep : Obligations.LinearImageGivesProportionalStep := by
  intro m v himage hv hlt
  have hstep := pitchStep_toNat m v
  rw [lookupAcc_linearPitch himage hv hlt] at hstep
  omega

/-- Settles O31, register by register. -/
theorem mutedRenderTickDeliversZero : Obligations.MutedRenderTickDeliversZero := by
  intro s p v hm hr
  obtain ⟨hstep, hphase⟩ := tickWith_holds Config.params p v hr hm
  have hsample := tickWith_sample_of_muted Config.params p v hr hm
  refine ⟨tickWith Config.params p v s, rfl, hstep, hphase, tickWith_amp_params p v hr, hsample, ?_⟩
  rw [tickWith_emitted, if_pos hr, hsample]

/-- Settles O30, register by register; the sample is rendered from the phase and the amplitude the tick leaves. -/
theorem unmutedRenderTickSynthesises : Obligations.UnmutedRenderTickSynthesises := by
  intro s p v hm hr
  obtain ⟨hstep, hphase⟩ := tickWith_advances Config.params p v hr hm
  have hsample := tickWith_sample_of_unmuted Config.params p v hr hm
  have hemitted := tickWith_emitted Config.params p v s
  rw [if_pos hr] at hemitted
  refine ⟨tickWith Config.params p v s, rfl, ?_, ?_, tickWith_amp_params p v hr, ?_, hemitted⟩
  · rw [hstep, pitchStep_toNat, lookupAcc]
  · rw [hphase, hstep, BitVec.toNat_add]
  · have hwave := waveInterp_eq s.mem s.wlen (tickWith Config.params p v s).phase
    obtain ⟨u, hu, hlt⟩ := exists_shaperInput (tickWith Config.params p v s).amp
      (waveInterp_range s.mem s.wlen (tickWith Config.params p v s).phase)
    refine ⟨_, _, _, u, _, _, rfl, rfl, rfl, hwave, tdiv_eq_int_tdiv _ 50, hu, hlt, ?_⟩
    rw [hsample, renderedSample, tickWith_shapeEn, tickWith_mem, tickWith_wlen, shapeSample_eq s.mem hu hlt]
    rfl
end

section
/-! SUPPORT. What a muted event delivers (45_tick R216), and the waveform value of a zero table and of phases a whole number
of table lengths apart (44_synthesis R202 to R204). -/

namespace Sys2Proof.Laws

open Sys2Proof.Machine

/-- A muted TICK delivers 0, or nothing (44_synthesis R210, 45_tick R216). -/
theorem tickWith_emitted_of_muted (p : Config.Params) (capP capV : Capture) {s : State} (hm : s.mute = true) :
    (tickWith p capP capV s).emitted = none ∨ (tickWith p capP capV s).emitted = some 0#16 := by
  rw [tickWith_emitted]
  split
  · next hr => rw [tickWith_sample_of_muted p capP capV hr hm]; exact .inr rfl
  · exact .inl rfl

/-- Only a write of `CTRL` clears `MUTE` (10_state R25, 45_tick R222). -/
theorem Effect.keeps_mute {s t : State} {i : Instr} (he : Effect s i t) (hm : s.mute = true)
    (hi : ∀ (d sh : Bool) (l : BitVec 2), i ≠ .wrCtrl false d sh l) : t.mute = true := by
  cases he with
  | ctrl m d sh hl =>
    cases m with
    | false => exact absurd rfl (hi d sh _)
    | true => rfl
  | tick p v => rw [tickWith_mute]; exact hm
  | reset => rfl
  | _ => exact hm

/-- An event of a muted state delivers 0, or nothing: only a TICK delivers at all (30_encoding R95, 45_tick R216). -/
theorem Effect.delivers_silence {s t : State} {i : Instr} (he : Effect s i t) (hm : s.mute = true) :
    t.emitted = none ∨ t.emitted = some 0#16 := by
  cases he with
  | tick p v => exact tickWith_emitted_of_muted _ p v hm
  | _ => exact .inl rfl

theorem synthSample_of_unmuted {s : State} (hm : s.mute = false) :
    synthSample s = clamp (renderedSample s) (-32768) 32767 := by simp [synthSample, hm]

/-- `SynthSample()` is an s16 in every state (44_synthesis R212). -/
theorem synthSample_range (s : State) : -32768 ≤ synthSample s ∧ synthSample s ≤ 32767 := by
  unfold synthSample
  split
  · norm_num
  · exact clamp_bounds (by norm_num)

/-- A zero table gives a zero waveform value at every phase: both indices lie below the length (44_synthesis R203, R204). -/
theorem waveInterp_of_zero {m : Memory} {l : BitVec 2} (h : ∀ j : Nat, j < 1024 * 2 ^ l.toNat → memRead m .wtab j = 0)
    (phase : Word) : waveInterp m l phase = 0 := by
  have hindex (n : Nat) : memRead m .wtab (n % (1024 * 2 ^ l.toNat)) = 0 := h _ (Nat.mod_lt _ (by positivity))
  rw [waveInterp_eq, hindex, hindex]
  norm_num

/-- A zero waveform without shaping renders 0, whatever the amplitude (44_synthesis R206, R211). -/
theorem renderedSample_of_zero {s : State} (hshape : s.shapeEn = false)
    (h : ∀ j : Nat, j < 1024 * 2 ^ s.wlen.toNat → memRead s.mem .wtab j = 0) : renderedSample s = 0 := by
  simp [renderedSample, hshape, scaleAmp, waveInterp_of_zero h, tdiv]

/-- The waveform value depends on the phase modulo the table length times 2^20 only (44_synthesis R202 to R204). -/
theorem waveInterp_congr (m : Memory) (l : BitVec 2) {a b : Word}
    (h : a.toNat ≡ b.toNat [MOD 1024 * 2 ^ l.toNat * 2 ^ 20]) : waveInterp m l a = waveInterp m l b := by
  have hidx : a.toNat / 2 ^ 20 ≡ b.toNat / 2 ^ 20 [MOD 1024 * 2 ^ l.toNat] := by
    unfold Nat.ModEq
    rw [← Nat.mod_mul_left_div_self, ← Nat.mod_mul_left_div_self]
    exact congrArg (· / 2 ^ 20) h
  have hnext : a.toNat / 2 ^ 20 + 1 ≡ b.toNat / 2 ^ 20 + 1 [MOD 1024 * 2 ^ l.toNat] := hidx.add_right 1
  have hfrac : a.toNat ≡ b.toNat [MOD 2 ^ 20] := h.of_mul_left _
  rw [waveInterp_eq, waveInterp_eq, hidx, hnext, hfrac]

/-- Phases wrap at 2^32, a whole number of the lengths a legal `WLEN` selects (10_state R25, R43). -/
theorem waveLength_dvd {l : BitVec 2} (h : l ≠ 3#2) : 1024 * 2 ^ l.toNat * 2 ^ 20 ∣ 2 ^ 32 := by
  obtain rfl | rfl | rfl | rfl := bitVec2_cases l
  · decide
  · decide
  · decide
  · exact absurd rfl h

/-- Advancing the phase by table lengths keeps it modulo one length (44_synthesis R201, R203). -/
theorem phase_add_lengths {l : BitVec 2} (h : l ≠ 3#2) (phase : Word) (n : Nat) :
    (phase + BitVec.ofNat 32 (n * (1024 * 2 ^ l.toNat * 2 ^ 20))).toNat ≡ phase.toNat
      [MOD 1024 * 2 ^ l.toNat * 2 ^ 20] := by
  rw [BitVec.toNat_add, BitVec.toNat_ofNat, Nat.add_mod_mod]
  calc (phase.toNat + n * (1024 * 2 ^ l.toNat * 2 ^ 20)) % 2 ^ 32
      ≡ phase.toNat + n * (1024 * 2 ^ l.toNat * 2 ^ 20) [MOD 1024 * 2 ^ l.toNat * 2 ^ 20] :=
        (Nat.mod_modEq _ _).of_dvd (waveLength_dvd h)
    _ ≡ phase.toNat [MOD 1024 * 2 ^ l.toNat * 2 ^ 20] := by
        rw [Nat.ModEq, Nat.add_mul_mod_self_right]

end Sys2Proof.Laws
end

section
/-! The statements of 44_synthesis: silence along a muted run, the ranges of the sample, and the waveform value of a zero
table and over a whole number of table lengths. -/

open Sys2Proof Sys2Proof.Machine Sys2Proof.Laws

/-- Settles O37. What the first event finds on the sample port does not matter, so the invariant starts at the state it
leaves. -/
theorem mutedRunDeliversOnlySilence : Obligations.MutedRunDeliversOnlySilence := by
  intro is s hm hctrl
  cases is with
  | nil => trivial
  | cons i rest =>
    obtain ⟨t, hexec, heffect⟩ := exec_effect i s
    have ht := And.intro (heffect.keeps_mute hm (hctrl i (by simp))) (heffect.delivers_silence hm)
    refine ⟨t, hexec, ht, everyAlong_of_effect ht ?_⟩
    intro j hj u v ⟨hu, _⟩ hv
    exact ⟨hv.keeps_mute hu (hctrl j (List.mem_cons_of_mem i hj)), hv.delivers_silence hu⟩

/-- Settles O47, by the clamp, and by the bound on the scaled waveform value. -/
theorem synthSampleIsInRange : Obligations.SynthSampleIsInRange := by
  intro s
  obtain ⟨hlow, hhigh⟩ := synthSample_range s
  exact ⟨hlow, hhigh, abs_synthSample_le⟩

/-- Settles O48: no amplitude of 30 bits, in range or not, renders a value outside s16. -/
theorem finalClampNeverActs : Obligations.FinalClampNeverActs := by
  intro s _ hm
  rw [synthSample_of_unmuted hm, clamp_of_mem (renderedSample_range s)]

/-- Settles O58: the tick keeps the table and the fields of `CTRL`, so it renders a zero waveform, muted or not. -/
theorem zeroWaveformIsSilent : Obligations.ZeroWaveformIsSilent := by
  intro s p v _ hshape hzero hr
  have hsample : (tickWith Config.params p v s).sample = 0#16 := by
    cases hm : s.mute with
    | true => exact tickWith_sample_of_muted _ p v hr hm
    | false =>
      have hrendered : renderedSample (tickWith Config.params p v s) = 0 :=
        renderedSample_of_zero (by rw [tickWith_shapeEn, hshape]) (by simpa using hzero)
      exact BitVec.eq_of_toInt_eq ((tickWith_sample_of_unmuted _ p v hr hm).trans hrendered)
  exact ⟨_, rfl, by rw [tickWith_emitted, if_pos hr, hsample]⟩

/-- Settles O59: the phase moves by a whole number of lengths, modulo 2^32, which is one as well. -/
theorem waveformRepeatsEveryTableLength : Obligations.WaveformRepeatsEveryTableLength :=
  fun m l phase n hl => waveInterp_congr m l (phase_add_lengths hl phase n)
end

section
/-! SUPPORT. Which registers part S of a TICK looks at, and which it leaves alone: the tick that is not a render tick, the
divider's alternation (45_tick R216, R217), the registers of part F (R219), and the first tick after a RESET
(70_reset_and_hazards R267). -/

namespace Sys2Proof.Laws

open Sys2Proof.Machine

/-! ### The divider -/

/-- A tick that is not a render tick keeps the synthesis registers (45_tick R216). -/
theorem tickWith_of_not_renderTick (p : Config.Params) (capP capV : Capture) {s : State} (h : ¬ RenderTick s) :
    (tickWith p capP capV s).stepReg = s.stepReg ∧ (tickWith p capP capV s).phase = s.phase ∧
      (tickWith p capP capV s).amp = s.amp := by
  have hskipped : renders s.silent = false := Bool.eq_false_iff.2 fun hr => h ((renders_iff s.silent).1 hr)
  obtain ⟨hphase, hamp, hstep, -, -⟩ := tickWith_synthesis p capP capV s
  rw [hphase, hamp, hstep, partS_skipped p _ hskipped]
  exact ⟨rfl, rfl, rfl⟩

/-- Whether a TICK delivers is the render condition of the state it finds (30_encoding R95). -/
theorem tickWith_emitted_isSome (p : Config.Params) (capP capV : Capture) (s : State) :
    (tickWith p capP capV s).emitted.isSome = renders s := by
  rw [tickWith_emitted]
  split
  · next hr => exact ((renders_iff s).2 hr).symm
  · next hr => exact (Bool.eq_false_iff.2 fun h => hr ((renders_iff s).1 h)).symm

/-- With the divider on a TICK toggles the divider phase, and delivers where it was 0 (45_tick R217). -/
theorem tickWith_of_divided (p : Config.Params) (capP capV : Capture) {s : State} (h : s.div2 = true) :
    (tickWith p capP capV s).div2 = true ∧ (tickWith p capP capV s).divph = !s.divph ∧
      (tickWith p capP capV s).emitted.isSome = !s.divph := by
  rw [tickWith_div2, tickWith_divph, tickWith_emitted_isSome, nextDivph_eq, renders, h]
  exact ⟨rfl, Bool.true_and _, Bool.false_or _⟩

/-- With the divider off every TICK delivers and clears the divider phase (45_tick R217). -/
theorem tickWith_of_undivided (p : Config.Params) (capP capV : Capture) {s : State} (h : s.div2 = false) :
    (tickWith p capP capV s).div2 = false ∧ (tickWith p capP capV s).divph = false ∧
      (tickWith p capP capV s).emitted.isSome = true := by
  rw [tickWith_div2, tickWith_divph, tickWith_emitted_isSome, nextDivph_eq, renders, h]
  exact ⟨rfl, Bool.false_and _, Bool.true_or _⟩

/-! ### What part S does not look at -/

/-- What part S may write: the sample port and the synthesis registers (45_tick R215 lines 1 to 9). -/
def synthesisOf (s : State) : Option Sample × Sample × Word × Word × BitVec 30 :=
  (s.emitted, s.sample, s.stepReg, s.phase, s.amp)

theorem synthesisOf_eq_iff {s t : State} : synthesisOf s = synthesisOf t ↔
    s.emitted = t.emitted ∧ s.sample = t.sample ∧ s.stepReg = t.stepReg ∧ s.phase = t.phase ∧ s.amp = t.amp := by
  simp only [synthesisOf, Prod.mk.injEq]

/-- A TICK's synthesis is that of its part S, which is given no captures (45_tick R219). -/
theorem synthesisOf_tickWith (p : Config.Params) (capP capV : Capture) (s : State) :
    synthesisOf (tickWith p capP capV s) = synthesisOf (partS p s.silent) := by
  obtain ⟨hphase, hamp, hstep, hsample, hemitted⟩ := tickWith_synthesis p capP capV s
  exact synthesisOf_eq_iff.2 ⟨hemitted, hsample, hstep, hphase, hamp⟩

/-- The state with other offsets and accumulators, the registers of part F a host may write (45_tick R219). -/
def withChannels (s : State) (pofs vofs fpitch fvol : Word) : State :=
  { s with pofs := pofs, vofs := vofs, fpitch := fpitch, fvol := fvol }

/-- Part S does not look at the offsets and the accumulators: its control values were latched before (45_tick R219). -/
theorem partS_withChannels (p : Config.Params) (s : State) (pofs vofs fpitch fvol : Word) :
    partS p (withChannels s pofs vofs fpitch fvol) = withChannels (partS p s) pofs vofs fpitch fvol := by
  cases hr : renders s with
  | false => rw [partS_skipped p (withChannels s pofs vofs fpitch fvol) hr, partS_skipped p s hr]
  | true =>
    cases hm : s.mute with
    | true => rw [partS_muted p (withChannels s pofs vofs fpitch fvol) hr hm, partS_muted p s hr hm]; rfl
    | false => rw [partS_unmuted p (withChannels s pofs vofs fpitch fvol) hr hm, partS_unmuted p s hr hm]; rfl

/-- A write of an offset or an accumulator changes nothing else of the block (40_host_access R115, R117, R119, R121). -/
theorem exec_channelWrite {i : Instr} {d : Word} (hi : i ∈ [Instr.wrPofs d, .wrVofs d, .wrFpitch d, .wrFvol d])
    (s : State) : ∃ r : State, exec i s = .next r ∧
      ∃ pofs vofs fpitch fvol : Word, r.silent = withChannels s.silent pofs vofs fpitch fvol := by
  simp only [List.mem_cons, List.not_mem_nil, or_false] at hi
  obtain rfl | rfl | rfl | rfl := hi
  · exact ⟨_, rfl, d, s.vofs, s.fpitch, s.fvol, rfl⟩
  · exact ⟨_, rfl, s.pofs, d, s.fpitch, s.fvol, rfl⟩
  · exact ⟨_, rfl, s.pofs, s.vofs, d, s.fvol, rfl⟩
  · exact ⟨_, rfl, s.pofs, s.vofs, s.fpitch, d, rfl⟩

/-! ### After a RESET -/

/-- The control value 1, the reset value of both, looks up entry 0 without interpolation (43_lookup R185 to R187). -/
theorem lookupAcc_one (m : Memory) (t : TableName) : lookupAcc m t 1 = memRead m t 0 * 2 ^ 17 := by
  have hkey : key 1 = 0 := key_two_pow 0
  have hidx : keyIdx 0 = 0 := rfl
  have hfrac : keyFrac 0 = 0 := rfl
  rw [lookupAcc, hkey, hidx, hfrac, interp, Nat.cast_zero, mul_zero, add_zero]

/-- A render tick with the reset values of `AMP` and `VCTL` leaves a 1024th of the target, `VTAB[0]` · 2^20 (43_lookup R190,
R191; log entry 9). -/
theorem tickWith_amp_of_resetValues (capP capV : Capture) {s : State} (hr : RenderTick s) (hamp : s.amp = 0#30)
    (hvctl : s.vctl = 1#16) :
    ((tickWith Config.params capP capV s).amp.toNat : Int) = memRead s.mem .vtab 0 * 1024 := by
  have htarget : ampTarget s.mem s.vctl = memRead s.mem .vtab 0 * 1024 * 2 ^ Config.params.ampShift := by
    have hshift : Config.params.ampShift = 10 := rfl
    have hone : (1#16).toNat = 1 := rfl
    rw [ampTarget, hvctl, hone, lookupAcc_one, hshift]
    ring
  have hzero : ((0#30).toNat : Int) = 0 := rfl
  rw [tickWith_amp_of_renderTick _ _ _ hr, smoothAmp_toNat _ _ (ampTarget_range _ _), hamp, hzero, htarget, sub_zero,
    zero_add, tdiv_mul_two_pow]

end Sys2Proof.Laws
end

section
/-! The statements of 45_tick: ticks that are not render ticks, the divider, what a sample does not depend on, and the first
TICK after a RESET. -/

open Sys2Proof Sys2Proof.Machine Sys2Proof.Laws

/-- Settles O32: part S is skipped, and part F keeps what it writes. -/
theorem nonRenderTickSkipsSynthesis : Obligations.NonRenderTickSkipsSynthesis := by
  intro s p v hdiv hph
  have hr : ¬ RenderTick s := by simp [hdiv, hph]
  obtain ⟨hstep, hphase, hamp⟩ := tickWith_of_not_renderTick Config.params p v hr
  have hsample := tickWith_sample_of_not_renderTick Config.params p v hr
  exact ⟨_, rfl, hstep, hphase, hamp, hsample, by rw [tickWith_emitted, if_neg hr]⟩

/-- Settles O34: each of the two ticks finds the divider setting the other finds. -/
theorem dividerAlternatesRenderTicks : Obligations.DividerAlternatesRenderTicks := by
  intro s p v q x
  refine ⟨_, _, rfl, rfl, fun hdiv => ?_, fun hdiv => ?_⟩
  · obtain ⟨hdiv', hph, hemitted⟩ := tickWith_of_divided Config.params p v hdiv
    obtain ⟨-, hph', hemitted'⟩ := tickWith_of_divided Config.params q x hdiv'
    rw [hph, Bool.not_not] at hph' hemitted'
    exact ⟨hph, hph', hemitted, hemitted'⟩
  · obtain ⟨hdiv', hph, hemitted⟩ := tickWith_of_undivided Config.params p v hdiv
    obtain ⟨-, hph', hemitted'⟩ := tickWith_of_undivided Config.params q x hdiv'
    exact ⟨hph, hph', hemitted, hemitted'⟩

/-- Settles O35: both ticks run the same part S, and the divider phase does not look at the captures either. -/
theorem outputIndependentOfOwnCaptures : Obligations.OutputIndependentOfOwnCaptures := by
  intro s p v q x
  have hsame : synthesisOf (tickWith Config.params p v s) = synthesisOf (tickWith Config.params q x s) := by
    rw [synthesisOf_tickWith, synthesisOf_tickWith]
  obtain ⟨hemitted, hsample, hstep, hphase, hamp⟩ := synthesisOf_eq_iff.1 hsame
  exact ⟨_, _, rfl, rfl, hemitted, hsample, hstep, hphase, hamp, by rw [tickWith_divph, tickWith_divph]⟩

/-- Settles O36: the write reaches only registers that part S does not look at. -/
theorem offsetWriteMissesTheNextSample : Obligations.OffsetWriteMissesTheNextSample := by
  intro s d p v i hi
  obtain ⟨r, hexec, pofs, vofs, fpitch, fvol, hwritten⟩ := exec_channelWrite hi s
  refine ⟨r, _, _, hexec, rfl, rfl, synthesisOf_eq_iff.1 ?_⟩
  calc synthesisOf (tickWith Config.params p v r)
      = synthesisOf (partS Config.params r.silent) := synthesisOf_tickWith _ _ _ _
    _ = synthesisOf (partS Config.params s.silent) := by rw [hwritten, partS_withChannels]; rfl
    _ = synthesisOf (tickWith Config.params p v s) := (synthesisOf_tickWith _ _ _ _).symm

/-- Settles O43: the reset values make the next TICK a muted render tick with control value 1 and amplitude 0. -/
theorem firstTickAfterReset : Obligations.FirstTickAfterReset := by
  intro s p v
  have hr : RenderTick s.resetRegisters.silent := .inl rfl
  obtain ⟨hstep, hphase⟩ := tickWith_holds Config.params p v hr rfl
  have hsample := tickWith_sample_of_muted Config.params p v hr rfl
  have hemitted := tickWith_emitted Config.params p v s.resetRegisters.silent
  rw [if_pos hr, hsample] at hemitted
  exact ⟨_, _, rfl, rfl, hemitted, hsample, hphase, hstep, tickWith_amp_of_resetValues p v hr rfl rfl,
    tickWith_fpitch _ _ _ _, tickWith_fvol _ _ _ _, tickWith_capp _ _ _ _, tickWith_capv _ _ _ _,
    by rw [tickWith_pctl, tickWith_fpitch]; rfl, by rw [tickWith_vctl, tickWith_fvol]; rfl⟩
end

section
/-! SUPPORT. A register read back at the end of a run (46_host_procedures R241): what every event of a run keeps holds at its
end, and a read then answers what was written at its start. -/

namespace Sys2Proof.Laws

open Sys2Proof.Machine

/-- A sequence of events that each complete and keep `P` ends in a state that has `P` (20_memory R69). -/
theorem exists_performs_of_keeps {P : State → Prop} {is : List Instr} {s : State} (hs : P s)
    (hkeeps : ∀ i ∈ is, ∀ t : State, P t → ∃ u : State, exec i t = .next u ∧ P u) :
    ∃ u : State, Performs is s u ∧ P u := by
  induction is generalizing s with
  | nil => exact ⟨s, rfl, hs⟩
  | cons i rest ih =>
    obtain ⟨t, hexec, ht⟩ := hkeeps i List.mem_cons_self s hs
    obtain ⟨u, hperforms, hu⟩ := ih ht fun j hj => hkeeps j (List.mem_cons_of_mem i hj)
    exact ⟨u, ⟨t, hexec, hperforms⟩, hu⟩

/-- A register that stores the whole data word reads back as written after events that each keep it (40_host_access R115
to R118). -/
theorem register_reads_back {r : RegName} {v : Word} {is : List Instr} {s : State}
    (hwrite : ∃ t : State, exec (regWrite v r) s = .next t ∧ regValue t r = v)
    (hkeeps : ∀ i ∈ is, ∀ t : State, ∃ u : State, exec i t = .next u ∧ regValue u r = regValue t r) :
    ∃ t u : State, Performs (regWrite v r :: is) s t ∧ exec (regRead r) t = .next u ∧
      u.resp = some { err := false, rdata := v } := by
  obtain ⟨w, hwritten, hw⟩ := hwrite
  obtain ⟨t, hperforms, ht⟩ := exists_performs_of_keeps (P := fun t => regValue t r = v) (is := is) hw
    fun i hi t ht => by
      obtain ⟨u, hexec, hu⟩ := hkeeps i hi t
      exact ⟨u, hexec, hu.trans ht⟩
  refine ⟨t, t.answer false v, ⟨w, hwritten, hperforms⟩, ?_, rfl⟩
  rw [exec_regRead, ht]

end Sys2Proof.Laws
end

section
/-! The statement of 46_host_procedures: the round trip of a calibration offset. -/

open Sys2Proof Sys2Proof.Machine Sys2Proof.Laws

/-- Settles O23: by O40 an offset is changed only by RESET and its own write. -/
theorem offsetRoundTripThroughAnyEvents : Obligations.OffsetRoundTripThroughAnyEvents := by
  intro s v is hreset
  constructor
  · intro hother
    refine register_reads_back (r := .pofs) ⟨_, rfl, rfl⟩ fun i hi t => ?_
    obtain ⟨u, hexec, -, hpofs, -⟩ := registersChangeOnlyByTheirWriters t i (hreset i hi)
    exact ⟨u, hexec, hpofs (hother i hi)⟩
  · intro hother
    refine register_reads_back (r := .vofs) ⟨_, rfl, rfl⟩ fun i hi t => ?_
    obtain ⟨u, hexec, -, -, hvofs, -⟩ := registersChangeOnlyByTheirWriters t i (hreset i hi)
    exact ⟨u, hexec, hvofs (hother i hi)⟩
end

section
/-! SUPPORT. The response of an event (60_exceptions R247): which events answer the error response. -/

namespace Sys2Proof.Laws

open Sys2Proof.Machine

/-- An event that is not one of the five causes answers no error: a TICK, a RESET and the reserved event word answer
nothing, every other event answers `err` = 0 (30_encoding R92, 60_exceptions R247). -/
theorem Effect.err_eq_false {s t : State} {i : Instr} (he : Effect s i t) (haccepted : ¬ Rejected i) :
    ∀ r : Response, t.resp = some r → r.err = false := by
  cases he with
  | rejected hrejected => exact absurd hrejected haccepted
  | tick | reset | evrsv => simp
  | _ => rintro _ ⟨⟩; rfl

end Sys2Proof.Laws
end

section
/-! The statements of 60_exceptions: the error response, and that no run stops. -/

open Sys2Proof Sys2Proof.Machine Sys2Proof.Laws

/-- Settles O20, by whether the command is one of the five causes: such a command leaves only its response, which no operation
looks at, and every other event answers no error. -/
theorem errorResponseIsExactlyTheFiveCauses : Obligations.ErrorResponseIsExactlyTheFiveCauses := by
  intro s i
  by_cases hrejected : Rejected i
  · refine ⟨s.answer true 0#32, exec_of_rejected hrejected s, iff_of_true ⟨0#32, rfl⟩ hrejected, fun v hv => ?_⟩
    cases hv
    exact ⟨rfl, block_answer s true 0#32, fun j => exec_answer j s true 0#32⟩
  · obtain ⟨t, hexec, heffect⟩ := exec_effect i s
    have hnoError (v : Word) : t.resp ≠ some { err := true, rdata := v } := fun hv =>
      Bool.noConfusion (heffect.err_eq_false hrejected _ hv)
    exact ⟨t, hexec, iff_of_false (fun ⟨v, hv⟩ => hnoError v hv) hrejected, fun v hv => absurd hv (hnoError v)⟩

/-- Settles O8, by induction on the number of steps: each step performs one event, and every event completes. -/
theorem noRunEverStops : Obligations.NoRunEverStops := by
  intro n
  induction n with
  | zero => exact fun s => ⟨s, rfl⟩
  | succ n ih =>
    intro s
    obtain ⟨t, hstep⟩ := exec_completes (decode (fetchEvent s)) s.popEvent
    rw [run_succ_of_step n hstep]
    exact ih t
end
